-- ==== Sys2Proof/Word.lean ====
section
/-! DEFINITION. The byte of the service line and the call loop, and the plainest numbers of the model. -/

namespace Sys2Proof

/-- One byte as it travels on the service line or the call loop (8 data bits, R96 and chapter 10's opening). -/
abbrev Byte := BitVec 8

end Sys2Proof
end

