-- ==== Sys2Proof/Syntax.lean ====
section
/-! DEFINITION. The commands of the SC310: the 44 requests of the office computer with the fields their frames carry,
and the 47 events of the field side, of the service line and of elapsed time; `Instr` has one constructor for each row
of spec/opcode_table.json. -/

namespace Sys2Proof

/-- The two supervised fire panel lines (R81), in the order the rules list them. -/
inductive Line where
  | alertIn | evacIn
deriving DecidableEq, Repr

/-- The taken reading of a fire line (R81), in the order R93 lists the readings. -/
inductive Reading where
  | normal | active | openFault | shortFault
deriving DecidableEq, Repr

/-- The two call queues (R113). -/
inductive QueueName where
  | counting | floor
deriving DecidableEq, Repr

/-- The four input lines of a shutter position (R55). -/
inductive InputLine where
  | top | bottom | clear | edge
deriving DecidableEq, Repr

/-- A script as a frame carries it: chime, class, marker, speaker groups, phrases (section 10.8); the phrase count
carried is the length of the list. -/
structure ScriptFields where
  chime : Byte
  cls : Byte
  marker : Byte
  groups : BitVec 16
  phrases : List Byte
deriving DecidableEq, Repr

/-- WRITE_ZONE: a zone entry, or the site entry, which zone index 32 names (R2, R3). -/
inductive ZoneWrite where
  | entry (zone type group nightClose hush : Byte)
  | site (presence : BitVec 64) (counting floor : Byte)
deriving DecidableEq, Repr

/-- What WRITE_SHUTTER carries after its index (R4, R175): a record, with its operation byte, or a deletion. -/
inductive ShutterWrite where
  | record (op zone kind opening : Byte) (t1 t : BitVec 16) (raiseLimit group : Byte)
  | deletion
deriving DecidableEq, Repr

/-- The chain geometry as WRITE_CHAIN carries it (R5); the cabin count carried is the length of `offsets`. -/
structure ChainFields where
  length : BitVec 16
  offsets : List (BitVec 16)
  halfWidth : BitVec 16
  tolerance : Byte
  park : BitVec 16
  stopping : BitVec 16
deriving DecidableEq, Repr

/-- What WRITE_CLOSING_STEP carries after its index (R10, R175). -/
inductive ClosingWrite where
  | step (op offset : Byte) (script : ScriptFields)
  | deletion
deriving DecidableEq, Repr

/-- The whole timing set as WRITE_TIMINGS carries it, in R11's order. -/
structure TimingFields where
  margin : BitVec 16
  dwell : Byte
  gap : BitVec 16
  groupDelay : Byte
  escCounting : BitVec 16
  escFloor : BitVec 16
  clearingLimit : Byte
  openingLimit : Byte
  alertToEvac : BitVec 16
  alertRepeat : BitVec 16
  evacRepeat : Byte
  holdThreshold : Byte
  defaultAction : Byte
  modeCounting : Byte
  modeFloor : Byte
deriving DecidableEq, Repr

/-- What POST_ANNOUNCEMENT carries after its slot (R128, section 10.8). -/
structure PostFields where
  script : ScriptFields
  repeats : Byte
  interval : BitVec 16
  start : BitVec 24
deriving DecidableEq, Repr

/-- A request of the catalogue of R175 with the fields its payload carries. -/
inductive Request where
  | getStatus
  | setTime (time : BitVec 24)
  | setSchedule (opening closing : BitVec 24) (wakeOn planOn : Byte)
  | openNow
  | closeNow
  | setWake (keyEnable clearFlags : Byte)
  | restart
  | writeZone (w : ZoneWrite)
  | readZone (zone : Byte)
  | writeShutter (index : Byte) (w : ShutterWrite)
  | readShutter (index : Byte)
  | writeChain (g : ChainFields)
  | readChain
  | writeLanding (index present : Byte) (up dn : BitVec 16)
  | writeFilter (index enabled kind first second action night : Byte)
  | readFilter (index : Byte)
  | writePhrase (index : Byte) (start length : BitVec 24)
  | writeFireScript (name : Byte) (script : ScriptFields)
  | writeClosingStep (index : Byte) (w : ClosingWrite)
  | writeTimings (t : TimingFields)
  | lockCommission
  | saveSettings
  | chainStart
  | chainStop
  | chainPark
  | chainReset
  | chainStatus
  | openingQuery (index : Byte)
  | shutterLower (index : Byte)
  | shutterRaise (index : Byte)
  | shutterStatus (index : Byte)
  | fireReport (floor : Byte)
  | fireReset
  | fireStatus
  | readCalls (queue : Byte)
  | ackCalls (queue slot : Byte) (expected : Option Byte)
  | loopStatus (quarter : Option Byte)
  | postAnnouncement (slot : Byte) (post : PostFields)
  | cancelAnnouncement (slot : Byte)
  | announceStatus
  | readLog (count : Byte)
  | ackLog (index : Byte)
  | armNotices (set : BitVec 16)
  | clearLatch (set : BitVec 16)
deriving DecidableEq, Repr

/-- What a good frame holds once its KIND and LEN are read (checks 1 and 2 of R175, which rest on the frame alone). -/
inductive Body where
  | unknownKind
  | badLength
  | request (r : Request)
deriving DecidableEq, Repr

/-- The commands, one constructor for each row of spec/opcode_table.json, in the table's order.

A request's command is that request received whole, under its tag, as a good frame (00_scope.md, "Names"): it goes
to the receive places as R174 gives. An event's command is the moment the event is taken. -/
inductive Instr where
  | powerOnReset (bank0Lost bank1Lost : Bool)
  | pinReset (bank0Lost bank1Lost : Bool)
  | frameComplete (bytes : List Byte)
  | receiveGapTimeout
  | badKindRequest (tag kind : Byte)
  | replySendStart
  | noticeSendStart
  | frameSent
  | getStatus (tag : Byte)
  | setTime (tag : Byte) (time : BitVec 24)
  | setSchedule (tag : Byte) (opening closing : BitVec 24) (wakeOn planOn : Byte)
  | openNow (tag : Byte)
  | closeNow (tag : Byte)
  | setWake (tag : Byte) (keyEnable clearFlags : Byte)
  | restart (tag : Byte)
  | restartTakesEffect
  | writeZone (tag : Byte) (w : ZoneWrite)
  | readZone (tag : Byte) (zone : Byte)
  | writeShutter (tag : Byte) (index : Byte) (w : ShutterWrite)
  | readShutter (tag : Byte) (index : Byte)
  | writeChain (tag : Byte) (g : ChainFields)
  | readChain (tag : Byte)
  | writeLanding (tag : Byte) (index present : Byte) (up dn : BitVec 16)
  | writeFilter (tag : Byte) (index enabled kind first second action night : Byte)
  | readFilter (tag : Byte) (index : Byte)
  | writePhrase (tag : Byte) (index : Byte) (start length : BitVec 24)
  | writeFireScript (tag : Byte) (name : Byte) (script : ScriptFields)
  | writeClosingStep (tag : Byte) (index : Byte) (w : ClosingWrite)
  | writeTimings (tag : Byte) (t : TimingFields)
  | lockCommission (tag : Byte)
  | saveSettings (tag : Byte)
  | saveComplete (readBackGood : Bool)
  | chainStart (tag : Byte)
  | chainStop (tag : Byte)
  | chainPark (tag : Byte)
  | chainReset (tag : Byte)
  | chainStatus (tag : Byte)
  | openingQuery (tag : Byte) (index : Byte)
  | shutterLower (tag : Byte) (index : Byte)
  | shutterRaise (tag : Byte) (index : Byte)
  | shutterStatus (tag : Byte) (index : Byte)
  | fireReport (tag : Byte) (floor : Byte)
  | fireReset (tag : Byte)
  | fireStatus (tag : Byte)
  | readCalls (tag : Byte) (queue : Byte)
  | ackCalls (tag : Byte) (queue slot : Byte) (expected : Option Byte)
  | loopStatus (tag : Byte) (quarter : Option Byte)
  | postAnnouncement (tag : Byte) (slot : Byte) (post : PostFields)
  | cancelAnnouncement (tag : Byte) (slot : Byte)
  | announceStatus (tag : Byte)
  | readLog (tag : Byte) (count : Byte)
  | ackLog (tag : Byte) (index : Byte)
  | armNotices (tag : Byte) (set : BitVec 16)
  | clearLatch (tag : Byte) (set : BitVec 16)
  | encoderStep (forward : Bool)
  | indexPulse
  | speedWindowComplete
  | stepOffDwellElapsed
  | driveOkChange (high : Bool)
  | syncRunLimit
  | clearOutComplete
  | shutterFirstReading (top bottom clear edge : BitVec 32)
  | shutterInputChange (position : Fin 32) (line : InputLine) (active : Bool)
  | slowDrop (position : Fin 32)
  | slowFinal (position : Fin 32)
  | raiseTimeout (position : Fin 32)
  | obstructionResume (position : Fin 32)
  | obstructedRetry (position : Fin 32)
  | fireLineReadingChange (line : Line) (reading : Reading)
  | startupReadTimeout (line : Line)
  | escalationTimeout
  | evacGroupDue
  | pollReplyEnd (bytes : List Byte) (stopBits : Bool)
  | pollReplyTimeout
  | callEscalationTimeout (queue : QueueName)
  | localAcknowledge (queue : QueueName)
  | annunciatorGroupEnd (queue : QueueName)
  | annunciatorGroupDue (queue : QueueName)
  | chimeEnd
  | phraseEnd
  | gapEnd
  | repeatTimeExpiry (slot : Fin 8)
  | alertRepeatTimeout
  | evacRepeatTimeout
  | storeClockTick
  | clearingLimitTimeout
  | watchmanKeyChange (active : Bool)
  | keyHoldComplete
  | openingLimitTimeout
  | serviceLineByteArrives (byte : Byte) (stopBit : Bool)
  | firstPollAfterRestart
deriving DecidableEq, Repr

end Sys2Proof
end

