-- ==== Sys2Proof/Decode.lean ====
section
/-! DEFINITION. Reading and writing what the service line carries: the byte orders of section 10.8, the CRC-16 of R173,
the payload of every request kind of R175's catalogue in both directions, and whole frames. `decodeTableWord` answers
none: spec/opcode_table.json gives no row any bits. -/

namespace Sys2Proof

/-! ### Byte orders (section 10.8) -/

/-- A number of one byte. -/
def u8 (n : Nat) : List Byte := [BitVec.ofNat 8 n]

/-- A number of two bytes, high byte first. -/
def u16 (n : Nat) : List Byte := [BitVec.ofNat 8 (n / 256), BitVec.ofNat 8 n]

/-- A number of three bytes, high byte first. -/
def u24 (n : Nat) : List Byte := [BitVec.ofNat 8 (n / 65536), BitVec.ofNat 8 (n / 256), BitVec.ofNat 8 n]

/-- Two bytes, high byte first, as one value. -/
def be16 (a b : Byte) : BitVec 16 := a ++ b

/-- Three bytes, high byte first, as one value. -/
def be24 (a b c : Byte) : BitVec 24 := a ++ b ++ c

/-- The two bytes of a 16-bit value, high byte first. -/
def bytes16 (x : BitVec 16) : List Byte := [x.extractLsb' 8 8, x.extractLsb' 0 8]

/-- The three bytes of a 24-bit value, high byte first. -/
def bytes24 (x : BitVec 24) : List Byte := [x.extractLsb' 16 8, x.extractLsb' 8 8, x.extractLsb' 0 8]

/-- The eight bytes of a station set: bit n of byte n div 8 for member n, bit 0 least significant. -/
def bytes64 (x : BitVec 64) : List Byte :=
  [x.extractLsb' 0 8, x.extractLsb' 8 8, x.extractLsb' 16 8, x.extractLsb' 24 8,
   x.extractLsb' 32 8, x.extractLsb' 40 8, x.extractLsb' 48 8, x.extractLsb' 56 8]

/-- The station set that eight bytes carry. -/
def set64 (a b c d e f g h : Byte) : BitVec 64 := h ++ g ++ f ++ e ++ d ++ c ++ b ++ a

/-- A set of `8 * n` members as `n` bytes, member m in bit m mod 8 of byte m div 8. -/
def setBytes (n : Nat) {w : Nat} (x : BitVec w) : List Byte :=
  (List.range n).map fun i => x.extractLsb' (8 * i) 8

/-- Pairs of bytes as 16-bit values, high byte first; none for an odd number of bytes. -/
def pairs16 : List Byte → Option (List (BitVec 16))
  | [] => some []
  | [_] => none
  | a :: b :: rest => (pairs16 rest).map (be16 a b :: ·)

/-! ### CRC-16 (R173) -/

/-- One bit of the CRC-16: polynomial 0x1021, most significant bit first, no reflection. -/
def crcBit (r : BitVec 16) : BitVec 16 := if r.msb then (r <<< 1) ^^^ 0x1021#16 else r <<< 1

/-- One byte of the CRC-16. -/
def crcByte (r : BitVec 16) (b : Byte) : BitVec 16 :=
  crcBit (crcBit (crcBit (crcBit (crcBit (crcBit (crcBit (crcBit (r ^^^ be16 b 0#8))))))))

/-- The CRC-16 of R173 over a list of bytes: initial value 0xFFFF, no final inversion. -/
def crc16 (bs : List Byte) : BitVec 16 := bs.foldl crcByte 0xFFFF#16

/-! ### Request payloads (R175's catalogue, in the field order of the requests' rules) -/

/-- A script from its bytes: chime, class, marker, speaker groups, count, phrases. -/
def scriptOf (chime cls marker g1 g0 : Byte) (phrases : List Byte) : ScriptFields :=
  ⟨chime, cls, marker, be16 g1 g0, phrases⟩

/-- A script as carried: 6 + n bytes for n phrases. -/
def ScriptFields.bytes (s : ScriptFields) : List Byte :=
  [s.chime, s.cls, s.marker] ++ bytes16 s.groups ++ u8 s.phrases.length ++ s.phrases

def parseWriteZone : List Byte → Option Request
  | [zone, type, group, night, hush] =>
    if zone = 32#8 then none else some (.writeZone (.entry zone type group night hush))
  | [zone, p0, p1, p2, p3, p4, p5, p6, p7, counting, floor] =>
    if zone = 32#8 then some (.writeZone (.site (set64 p0 p1 p2 p3 p4 p5 p6 p7) counting floor)) else none
  | _ => none

def parseWriteShutter : List Byte → Option Request
  | [index, op] => if op = 1#8 then some (.writeShutter index .deletion) else none
  | [index, op, zone, kind, opening, t11, t10, t1, t0, limit, group] =>
    if op = 1#8 then none
    else some (.writeShutter index (.record op zone kind opening (be16 t11 t10) (be16 t1 t0) limit group))
  | _ => none

def parseWriteChain : List Byte → Option Request
  | l1 :: l0 :: n :: rest =>
    match pairs16 (rest.take (2 * n.toNat)), rest.drop (2 * n.toNat) with
    | some offsets, [w1, w0, tol, p1, p0, s1, s0] =>
      if offsets.length = n.toNat then
        some (.writeChain ⟨be16 l1 l0, offsets, be16 w1 w0, tol, be16 p1 p0, be16 s1 s0⟩)
      else none
    | _, _ => none
  | _ => none

def parseWriteFireScript : List Byte → Option Request
  | name :: chime :: cls :: marker :: g1 :: g0 :: n :: phrases =>
    if phrases.length = n.toNat then some (.writeFireScript name (scriptOf chime cls marker g1 g0 phrases)) else none
  | _ => none

def parseWriteClosingStep : List Byte → Option Request
  | [index, op] => if op = 1#8 then some (.writeClosingStep index .deletion) else none
  | index :: op :: offset :: chime :: cls :: marker :: g1 :: g0 :: n :: phrases =>
    if op = 1#8 then none
    else if phrases.length = n.toNat then
      some (.writeClosingStep index (.step op offset (scriptOf chime cls marker g1 g0 phrases)))
    else none
  | _ => none

def parseWriteTimings : List Byte → Option Request
  | [m1, m0, dwell, g1, g0, delay, c1, c0, f1, f0, cl, ol, a1, a0, r1, r0, er, hold, act, mc, mf] =>
    some (.writeTimings ⟨be16 m1 m0, dwell, be16 g1 g0, delay, be16 c1 c0, be16 f1 f0, cl, ol, be16 a1 a0,
      be16 r1 r0, er, hold, act, mc, mf⟩)
  | _ => none

def parsePost : List Byte → Option Request
  | slot :: chime :: cls :: marker :: g1 :: g0 :: n :: rest =>
    match rest.drop n.toNat with
    | [repeats, i1, i0, s2, s1, s0] =>
      some (.postAnnouncement slot
        ⟨scriptOf chime cls marker g1 g0 (rest.take n.toNat), repeats, be16 i1 i0, be24 s2 s1 s0⟩)
    | _ => none
  | _ => none

/-- A payload of no bytes. -/
def parse0 (r : Request) : List Byte → Option Request
  | [] => some r
  | _ => none

/-- A payload of one byte. -/
def parse1 (r : Byte → Request) : List Byte → Option Request
  | [a] => some (r a)
  | _ => none

/-- The catalogue of R175: for a request kind, the reading of its payload, which answers none for a length the kind
does not accept; none for a kind the catalogue does not list. -/
def payloadReader : Nat → Option (List Byte → Option Request)
  | 0x01 => some (parse0 .getStatus)
  | 0x02 => some fun | [a, b, c] => some (.setTime (be24 a b c)) | _ => none
  | 0x03 => some fun
    | [a, b, c, d, e, f, w, p] => some (.setSchedule (be24 a b c) (be24 d e f) w p)
    | _ => none
  | 0x04 => some (parse0 .openNow)
  | 0x05 => some (parse0 .closeNow)
  | 0x06 => some fun | [k, c] => some (.setWake k c) | _ => none
  | 0x07 => some (parse0 .restart)
  | 0x10 => some parseWriteZone
  | 0x11 => some (parse1 .readZone)
  | 0x12 => some parseWriteShutter
  | 0x13 => some (parse1 .readShutter)
  | 0x14 => some parseWriteChain
  | 0x15 => some (parse0 .readChain)
  | 0x16 => some fun | [i, p, u1, u0, d1, d0] => some (.writeLanding i p (be16 u1 u0) (be16 d1 d0)) | _ => none
  | 0x17 => some fun | [i, e, k, f, s, a, n] => some (.writeFilter i e k f s a n) | _ => none
  | 0x18 => some (parse1 .readFilter)
  | 0x19 => some fun | [i, s2, s1, s0, l2, l1, l0] => some (.writePhrase i (be24 s2 s1 s0) (be24 l2 l1 l0)) | _ => none
  | 0x1A => some parseWriteFireScript
  | 0x1B => some parseWriteClosingStep
  | 0x1C => some parseWriteTimings
  | 0x1D => some (parse0 .lockCommission)
  | 0x1E => some (parse0 .saveSettings)
  | 0x20 => some (parse0 .chainStart)
  | 0x21 => some (parse0 .chainStop)
  | 0x22 => some (parse0 .chainPark)
  | 0x23 => some (parse0 .chainReset)
  | 0x24 => some (parse0 .chainStatus)
  | 0x25 => some (parse1 .openingQuery)
  | 0x30 => some (parse1 .shutterLower)
  | 0x31 => some (parse1 .shutterRaise)
  | 0x32 => some (parse1 .shutterStatus)
  | 0x40 => some (parse1 .fireReport)
  | 0x41 => some (parse0 .fireReset)
  | 0x42 => some (parse0 .fireStatus)
  | 0x50 => some (parse1 .readCalls)
  | 0x51 => some fun
    | [q, s] => some (.ackCalls q s none)
    | [q, s, c] => some (.ackCalls q s (some c))
    | _ => none
  | 0x52 => some fun | [] => some (.loopStatus none) | [q] => some (.loopStatus (some q)) | _ => none
  | 0x60 => some parsePost
  | 0x61 => some (parse1 .cancelAnnouncement)
  | 0x62 => some (parse0 .announceStatus)
  | 0x63 => some (parse1 .readLog)
  | 0x64 => some (parse1 .ackLog)
  | 0x70 => some fun | [a, b] => some (.armNotices (be16 a b)) | _ => none
  | 0x71 => some fun | [a, b] => some (.clearLatch (be16 a b)) | _ => none
  | _ => none

/-- Checks 1 and 2 of R175 on a good frame: is KIND in the catalogue, and is LEN a length it accepts. -/
def bodyOf (kind : Byte) (payload : List Byte) : Body :=
  match payloadReader kind.toNat with
  | none => .unknownKind
  | some read => match read payload with
    | none => .badLength
    | some r => .request r

/-- The KIND of a request (R175's catalogue). -/
def Request.kind : Request → Nat
  | .getStatus => 0x01 | .setTime .. => 0x02 | .setSchedule .. => 0x03 | .openNow => 0x04 | .closeNow => 0x05
  | .setWake .. => 0x06 | .restart => 0x07 | .writeZone .. => 0x10 | .readZone .. => 0x11 | .writeShutter .. => 0x12
  | .readShutter .. => 0x13 | .writeChain .. => 0x14 | .readChain => 0x15 | .writeLanding .. => 0x16
  | .writeFilter .. => 0x17 | .readFilter .. => 0x18 | .writePhrase .. => 0x19 | .writeFireScript .. => 0x1A
  | .writeClosingStep .. => 0x1B | .writeTimings .. => 0x1C | .lockCommission => 0x1D | .saveSettings => 0x1E
  | .chainStart => 0x20 | .chainStop => 0x21 | .chainPark => 0x22 | .chainReset => 0x23 | .chainStatus => 0x24
  | .openingQuery .. => 0x25 | .shutterLower .. => 0x30 | .shutterRaise .. => 0x31 | .shutterStatus .. => 0x32
  | .fireReport .. => 0x40 | .fireReset => 0x41 | .fireStatus => 0x42 | .readCalls .. => 0x50 | .ackCalls .. => 0x51
  | .loopStatus .. => 0x52 | .postAnnouncement .. => 0x60 | .cancelAnnouncement .. => 0x61 | .announceStatus => 0x62
  | .readLog .. => 0x63 | .ackLog .. => 0x64 | .armNotices .. => 0x70 | .clearLatch .. => 0x71

/-- A request kind as the KIND byte of its frame. -/
def Request.kindByte (r : Request) : Byte := BitVec.ofNat 8 r.kind

/-- The payload of a request's frame, in the order and with the encodings of section 10.8. -/
def Request.payload : Request → List Byte
  | .setTime t => bytes24 t
  | .setSchedule o c w p => bytes24 o ++ bytes24 c ++ [w, p]
  | .setWake k c => [k, c]
  | .writeZone (.entry z t g n h) => [z, t, g, n, h]
  | .writeZone (.site p c f) => [32#8] ++ bytes64 p ++ [c, f]
  | .readZone z => [z]
  | .writeShutter i .deletion => [i, 1#8]
  | .writeShutter i (.record op z k o t1 t l g) => [i, op, z, k, o] ++ bytes16 t1 ++ bytes16 t ++ [l, g]
  | .readShutter i => [i]
  | .writeChain g => bytes16 g.length ++ u8 g.offsets.length ++ g.offsets.flatMap bytes16 ++ bytes16 g.halfWidth ++
      [g.tolerance] ++ bytes16 g.park ++ bytes16 g.stopping
  | .writeLanding i p u d => [i, p] ++ bytes16 u ++ bytes16 d
  | .writeFilter i e k f s a n => [i, e, k, f, s, a, n]
  | .readFilter i => [i]
  | .writePhrase i s l => [i] ++ bytes24 s ++ bytes24 l
  | .writeFireScript n s => [n] ++ s.bytes
  | .writeClosingStep i .deletion => [i, 1#8]
  | .writeClosingStep i (.step op o s) => [i, op, o] ++ s.bytes
  | .writeTimings t => bytes16 t.margin ++ [t.dwell] ++ bytes16 t.gap ++ [t.groupDelay] ++ bytes16 t.escCounting ++
      bytes16 t.escFloor ++ [t.clearingLimit, t.openingLimit] ++ bytes16 t.alertToEvac ++ bytes16 t.alertRepeat ++
      [t.evacRepeat, t.holdThreshold, t.defaultAction, t.modeCounting, t.modeFloor]
  | .openingQuery i => [i]
  | .shutterLower i => [i]
  | .shutterRaise i => [i]
  | .shutterStatus i => [i]
  | .fireReport f => [f]
  | .readCalls q => [q]
  | .ackCalls q s none => [q, s]
  | .ackCalls q s (some c) => [q, s, c]
  | .loopStatus none => []
  | .loopStatus (some q) => [q]
  | .postAnnouncement s p => [s] ++ p.script.bytes ++ [p.repeats] ++ bytes16 p.interval ++ bytes24 p.start
  | .cancelAnnouncement s => [s]
  | .readLog n => [n]
  | .ackLog i => [i]
  | .armNotices s => bytes16 s
  | .clearLatch s => bytes16 s
  | .getStatus => []
  | .openNow => []
  | .closeNow => []
  | .restart => []
  | .readChain => []
  | .lockCommission => []
  | .saveSettings => []
  | .chainStart => []
  | .chainStop => []
  | .chainPark => []
  | .chainReset => []
  | .chainStatus => []
  | .fireReset => []
  | .fireStatus => []
  | .announceStatus => []

/-- The bytes of a frame that the CRC covers (R173): LEN, KIND, TAG and the payload. -/
def frameCore (kind tag : Byte) (payload : List Byte) : List Byte :=
  BitVec.ofNat 8 payload.length :: kind :: tag :: payload

/-- A whole frame of the service line, from its start byte 0xA5 to its last CRC byte (section 10.8). -/
def frameBytes (kind tag : Byte) (payload : List Byte) : List Byte :=
  0xA5#8 :: frameCore kind tag payload ++ bytes16 (crc16 (frameCore kind tag payload))

/-! ### The opcode table's words -/

/-- spec/opcode_table.json gives none of its rows any bits, so no word spells a command. -/
def decodeTableWord (_nbits _w : Nat) : Option Instr := none

end Sys2Proof
end

