-- ==== Sys2Proof/Config.lean ====
section
/-! DEFINITION. What the manual fixes as numbers for the whole part, and the free values: constants with no body that
stand where the manual gives an effect and does not say which value results. -/

namespace Sys2Proof

/-- Seconds of the store day (R152). -/
def Config.day : Nat := 86400

/-- The end of every 16-bit held count (R97, R109, R113, R146, R173). -/
def Config.maxCount : Nat := 65535

/-- The size of the phrase flash in bytes (R8). -/
def Config.flashSize : Nat := 2097152

/-- FREE VALUE (log entry 4). What SET_SCHEDULE and SET_WAKE do with a yes-or-no byte above 1: `none` refuses the
request with BAD_VALUE, `some b` takes the byte as `b`. The manual names only 0 and 1 (section 10.8). -/
opaque Config.strayYesNo : Nat → Option Bool

/-- FREE VALUE (log entry 5). Where several things come into being in one step and "either may be taken first" (R50),
which one is taken first: a number read modulo how many there are, for the n-th such choice. -/
opaque Config.firstTaken : Nat → Nat

/-- FREE VALUE (log entry 6). Whether a time left of so many milliseconds, reported in whole seconds, is rounded up. -/
opaque Config.roundsUp : Nat → Bool

/-- FREE VALUE (log entry 7). Whether a fail-safe release that was held stays held through a pin reset that leads to
UNCONFIGURED again (R16 and R58 do not settle it). -/
opaque Config.failSafeThroughPinReset : Bool

/-- FREE VALUE (log entry 8). Whether a 0xA5 that lacks its stop bit starts a frame while the receiver hunts (R173). -/
opaque Config.startWithoutStopBit : Bool

end Sys2Proof
end

