-- ==== Sys2Proof/Machine/State.lean ====
section
/-! DEFINITION. The whole state of the SC310 as plain data, block by block, with its value after a power-on reset of a
part whose nonvolatile memory holds no image. An enumeration's constructors stand in the order its rule lists the
values, so that its constructor number is its code on the service line (section 10.8). -/

namespace Sys2Proof.Machine

/-! ### Commissioning Store (chapter 1) -/

/-- Zone type (R2). -/
inductive ZoneType where
  | unused | sales | stair | paternosterHall | countingHouse | stockRoom
deriving DecidableEq, Repr

/-- A zone entry (R2). -/
structure Zone where
  type : ZoneType
  group : Nat
  nightClose : Bool
  hush : Bool
deriving DecidableEq, Repr

/-- The site entry (R3). -/
structure Site where
  presence : BitVec 64
  counting : Nat
  floor : Nat
deriving DecidableEq, Repr

/-- A shutter's kind with the fields an OPENING record has beside (R4): the opening guarded and the final descent
time T in ms. -/
inductive ShutterKind where
  | plain
  | opening (j : Nat) (finalTime : Nat)
deriving DecidableEq, Repr

/-- A shutter record (R4): times in ms, the raise limit in s. -/
structure ShutterRec where
  zone : Nat
  kind : ShutterKind
  dropTime : Nat
  raiseLimit : Nat
  group : Nat
deriving DecidableEq, Repr

/-- The chain geometry (R5); the cabin count N is the length of `offsets`. -/
structure Geometry where
  length : Nat
  offsets : List Nat
  halfWidth : Nat
  tolerance : Nat
  park : Nat
  stopping : Nat
deriving DecidableEq, Repr

/-- The openings of a present landing (R6). -/
structure Landing where
  up : Nat
  dn : Nat
deriving DecidableEq, Repr

/-- Filter entry kind (R7). -/
inductive FilterKind where
  | range | pair | mask
deriving DecidableEq, Repr

/-- Filter action (R7). -/
inductive Action where
  | toCounting | toFloor | urgentCounting | urgentFloor | reject | chainStop
deriving DecidableEq, Repr

/-- A filter entry (R7). -/
structure FilterEntry where
  enabled : Bool
  kind : FilterKind
  first : Nat
  second : Nat
  action : Action
  night : Bool
deriving DecidableEq, Repr

/-- A phrase directory entry (R8). -/
structure Phrase where
  start : Nat
  length : Nat
deriving DecidableEq, Repr

/-- A script (R8). -/
structure Script where
  chime : Nat
  phrases : List Nat
  groups : BitVec 16
  cls : Nat
  marker : Nat
deriving DecidableEq, Repr

/-- A closing step (R10): its offset in minutes before closing time, and its script. -/
structure ClosingStep where
  offset : Nat
  script : Script
deriving DecidableEq, Repr

/-- The timing set in the units of R11. -/
structure Timing where
  margin : Nat
  dwell : Nat
  gap : Nat
  groupDelay : Nat
  escCounting : Nat
  escFloor : Nat
  clearingLimit : Nat
  openingLimit : Nat
  alertToEvac : Nat
  alertRepeat : Nat
  evacRepeat : Nat
  holdThreshold : Nat
  unmatchedToFloor : Bool
  overwriteCounting : Bool
  overwriteFloor : Bool
deriving DecidableEq, Repr

/-- The schedule and the watchman key enable, saved in the image together (R154, R169, section 1.9). -/
structure Schedule where
  opening : Option Nat
  closing : Option Nat
  wakeOn : Bool
  planOn : Bool
  keyEnable : Bool
deriving DecidableEq, Repr

/-- The tables the commissioning lock freezes (R12). -/
structure Tables where
  zones : List Zone
  site : Site
  shutters : List (Option ShutterRec)
  geometry : Option Geometry
  landings : List (Option Landing)
  filters : List FilterEntry
  phrases : List Phrase
  scriptA : Option Script
  scriptE : Option Script
  plan : List (Option ClosingStep)
deriving DecidableEq, Repr

/-- A settings image (section 1.9). -/
structure Image where
  sequence : Nat
  tables : Tables
  timing : Timing
  schedule : Schedule
deriving DecidableEq, Repr

/-- A save in progress (R13): whether it is written into bank 1, and the image. -/
structure SaveJob where
  intoBank1 : Bool
  image : Image
deriving DecidableEq, Repr

/-- The Commissioning Store. A bank is its image when its CRC-32 matches and none otherwise (section 1.9). -/
structure Commission where
  tables : Tables
  timing : Timing
  lock : Bool
  unsaved : Bool
  imageFault : Bool
  bank0 : Option Image
  bank1 : Option Image
  saving : Option SaveJob
deriving DecidableEq, Repr

/-! ### Chain Tracker (chapter 2) -/

/-- The seven chain states by name (R25). -/
inductive ChainPhase where
  | stopped | syncRun | running | clearOut | parking | stopping | halted
deriving DecidableEq, Repr

/-- Stop intent (R35, R39). -/
inductive StopIntent where
  | park | plain
deriving DecidableEq, Repr

/-- Halt cause (R36). -/
inductive HaltCause where
  | drive | conflict | stopPush | slip | noIndex
deriving DecidableEq, Repr

/-- The halt record (R36). -/
structure HaltRec where
  cause : HaltCause
  code : Option Nat
  left : ChainPhase
  p : Nat
  synced : Bool
  time : Option Nat
deriving DecidableEq, Repr

/-- The chain state with what is present in that state only (R39): the sync-run count, the clear-out count, the stop
intent, the halt record. -/
inductive ChainState where
  | stopped
  | syncRun (count : Nat)
  | running
  | clearOut (count : Nat)
  | parking
  | stopping (intent : StopIntent)
  | halted (record : HaltRec)
deriving DecidableEq, Repr

/-- The Chain Tracker. -/
structure Chain where
  state : ChainState
  p : Nat
  synced : Bool
  lastSlip : Option Int
  window : Int
  nPrev : Int
  nLast : Int
  restMs : Nat
  driveOk : Bool
  parked : Bool
  stopPushes : BitVec 256
deriving DecidableEq, Repr

/-! ### Boarding Monitor (chapter 3) -/

/-- The conflict record (R50). -/
structure ConflictRec where
  shutter : Nat
  opening : Nat
  cabin : Nat
  p : Nat
  synced : Bool
  speed : Nat
  time : Option Nat
deriving DecidableEq, Repr

/-- The Boarding Monitor: the latch is set while it holds a record; `inConflict` lists, ascending, the shutters at which the
conflict condition held when it was last tested, against which "comes into being" is decided (R50). -/
structure Board where
  latch : Option ConflictRec
  inConflict : List Nat
deriving DecidableEq, Repr

/-! ### Shutter Controller (chapter 4) -/

/-- The debounced inputs of a shutter position, true when active (R55). -/
structure Inputs where
  top : Bool
  bottom : Bool
  clear : Bool
  edge : Bool
deriving DecidableEq, Repr

/-- Shutter states by name (R56). -/
inductive ShutterPhase where
  | isOpen | dropping | held | final | paused | closed | raiseWait | raising | fault
deriving DecidableEq, Repr

/-- Fault cause (R56). -/
inductive FaultCause where
  | slowDrop | slowFinal | obstructed | raiseTimeout | positionUnknown | limitConflict
deriving DecidableEq, Repr

/-- Pause cause (R56). -/
inductive PauseCause where
  | obstruction | conflict
deriving DecidableEq, Repr

/-- Resume phase (R56). -/
inductive ResumePhase where
  | dropping | final
deriving DecidableEq, Repr

/-- A shutter's state with what is present in it only (R56): the phase limit left in ms, the mark, the pause cause,
resume phase and edge-clear time in ms, the fault cause and retry time in ms. -/
inductive ShutterState where
  | isOpen
  | dropping (left : Nat)
  | held (mark : Bool)
  | final (left : Nat)
  | paused (cause : PauseCause) (resume : ResumePhase) (edgeClear : Nat)
  | closed
  | raiseWait
  | raising (left : Nat)
  | fault (cause : FaultCause) (retry : Nat)
deriving DecidableEq, Repr

/-- The running state of a commissioned shutter (R56). `groupOrdered` and `originOrdered` remember which orders of
the present fire have reached it, which R67 asks. -/
structure Shutter where
  state : ShutterState
  obstructions : Nat
  fireOrdered : Bool
  groupOrdered : Bool
  originOrdered : Bool
deriving DecidableEq, Repr

/-- The Shutter Controller. A position's entry is none while it has no state: uncommissioned (R4), in UNCONFIGURED
(R15), or before the first debounced reading after a reset (R58). -/
structure Shutters where
  inputs : List Inputs
  inputsRead : Bool
  failSafe : Bool
  units : List (Option Shutter)
  raiseQueue : List Nat
deriving DecidableEq, Repr

/-! ### Fire Stage Unit (chapter 5) -/

/-- Fire state (R83). -/
inductive FireState where
  | normal | alert | evacuate
deriving DecidableEq, Repr

/-- Cause of a change of the fire state (R83). -/
inductive FireCause where
  | alertLine | evacLine | escalation | reset | startUp
deriving DecidableEq, Repr

/-- The entry record of the fire state (R83). -/
structure FireEntry where
  cause : FireCause
  time : Option Nat
deriving DecidableEq, Repr

/-- A line's last-fault record (R82): SHORT_FAULT or else OPEN_FAULT, and the store time. -/
structure LineFault where
  short : Bool
  time : Option Nat
deriving DecidableEq, Repr

/-- The group schedule (R87): the group delay taken in s, the next group to fall due (4 when complete), and the time
left until it in ms. -/
structure GroupSchedule where
  delay : Nat
  next : Nat
  left : Nat
deriving DecidableEq, Repr

/-- The Fire Stage Unit. -/
structure Fire where
  state : FireState
  entry : Option FireEntry
  origin : Option Nat
  alertIn : Option Reading
  evacIn : Option Reading
  alertFault : Option LineFault
  evacFault : Option LineFault
  escalation : Option Nat
  schedule : Option GroupSchedule
  startUp : Bool
deriving DecidableEq, Repr

/-! ### Call Intake (chapter 6) -/

/-- A station table entry (R97). -/
structure Station where
  present : Bool
  missed : Nat
  lastReply : Option (BitVec 4)
  corrupt : Nat
  missing : Nat
deriving DecidableEq, Repr

/-- The poll in progress: the station polled and the lamp nibble sent to it (R94, R95). -/
structure Poll where
  station : Nat
  lamps : BitVec 4
deriving DecidableEq, Repr

/-- The last-press record (R109). -/
structure Press where
  station : Nat
  button : Nat
  code : Nat
  filter : Option Nat
  decided : Action
  taken : Action
  time : Option Nat
deriving DecidableEq, Repr

/-- Loop state by name (R99, R100). -/
inductive LoopState where
  | active | degraded | loopOff
deriving DecidableEq, Repr

/-- The Call Intake. `recovery` is present in LOOP_OFF only (R111); `fromLowest` says that the presence set was
emptied during the poll in progress, so that the round begins again at its lowest station (R94); `quietWait` that the
first poll after a RESTART waits for the line to fall quiet (R112). -/
structure Intake where
  stations : List Station
  counter : Nat
  recovery : Option Nat
  poll : Option Poll
  fromLowest : Bool
  quietWait : Bool
  accepted : Nat
  rejected : Nat
  discarded : Nat
  lastPress : Option Press
deriving DecidableEq, Repr

/-! ### Call Queue Unit (chapter 7) -/

/-- A call record (R113). -/
structure Call where
  code : Nat
  filter : Option Nat
  urgent : Bool
  escalated : Bool
  repeats : Nat
  time : Option Nat
deriving DecidableEq, Repr

/-- The strike group next due: the pattern code, absent when it is still to be taken from the head, and the group
number 1 to 3 (R120, R122). -/
structure NextGroup where
  code : Option Nat
  group : Nat
deriving DecidableEq, Repr

/-- An annunciator's pattern state (R120). In STRIKING: the pattern code, the group struck, the ms struck of it, and
whether the head has changed since it began (R122). -/
inductive Pattern where
  | silent
  | striking (code : Nat) (group : Nat) (ms : Nat) (headChanged : Bool)
  | groupGap (next : NextGroup)
  | patternWait (next : NextGroup)
  | hushWait (next : NextGroup)
deriving DecidableEq, Repr

/-- One queue and its annunciator. The records stand head first: the record of index i is in slot (head + i) mod 8
and their number is the count (R113). `timer` is the escalation time left in ms while it runs (R118). `sinceGroup` is
how long ago, in ms, the last group struck ended; absent when none has been struck since the reset (R120, R122). -/
structure Queue where
  head : Nat
  calls : List Call
  timer : Option Nat
  lost : Nat
  displaced : Nat
  localAcks : Nat
  pattern : Pattern
  sinceGroup : Option Nat
deriving DecidableEq, Repr

/-- The Call Queue Unit. -/
structure Calls where
  counting : Queue
  floor : Queue
deriving DecidableEq, Repr

/-! ### Announcement Sequencer (chapter 8) -/

/-- What a slot is posted with (R127, R128): its script, repeats and repeat interval in s; a closing step has no repeat
interval (R10). -/
structure Post where
  script : Script
  repeats : Nat
  interval : Option Nat
deriving DecidableEq, Repr

/-- A slot (R127). In PENDING the start is a store time until it has arrived, and then none. -/
inductive Slot where
  | free
  | pending (post : Post) (run : Nat) (start : Option Nat)
  | playing (post : Post) (run : Nat)
  | repeatWait (post : Post) (run : Nat) (left : Nat)
deriving DecidableEq, Repr

/-- A run's source (R132): slot 0 to 7, slot C as 8, script A or script E. -/
inductive Source where
  | slot (n : Nat)
  | scriptA
  | scriptE
deriving DecidableEq, Repr

/-- End request kind (R138). -/
inductive EndRequest where
  | cancel | defer | supersede | normal
deriving DecidableEq, Repr

/-- A run in the player (R132). -/
structure Run where
  source : Source
  script : Script
  number : Nat
  played : Nat
  skipped : Nat
  start : Option Nat
  endRequest : Option EndRequest
deriving DecidableEq, Repr

/-- The player (R132): the ms into the chime; the phrase's place in the list, the directory entry it was begun with (R8)
and the ms left of it; the gap ms left. -/
inductive Player where
  | idle
  | chime (run : Run) (ms : Nat)
  | phrase (run : Run) (index : Nat) (entry : Phrase) (left : Nat)
  | gap (left : Nat)
deriving DecidableEq, Repr

/-- Outcome of a run (R146). -/
inductive RunOutcome where
  | completed | completedDespiteCancel | cancelled | stoppedAfterPhrase | superseded | preempted | withdrawn
deriving DecidableEq, Repr

/-- A log record (R146). -/
structure LogRec where
  source : Source
  marker : Nat
  outcome : RunOutcome
  number : Nat
  start : Option Nat
  finish : Option Nat
  played : Nat
  skipped : Nat
deriving DecidableEq, Repr

/-- The Announcement Sequencer. `slots` holds host slots 0 to 7 and slot C as number 8. -/
structure Announcer where
  slots : List Slot
  waiting : Option Script
  player : Player
  dueA : Bool
  dueE : Bool
  timerA : Option Nat
  timerE : Option Nat
  runsA : Nat
  runsE : Nat
  log : List LogRec
  overflow : Nat
deriving DecidableEq, Repr

/-! ### Store Sequencer (chapter 9) -/

/-- Store state (R155). -/
inductive StoreState where
  | unconfigured | standby | trading | closing | clearing | shutting | shut | waking | opening
deriving DecidableEq, Repr

/-- Cause of a change of the store state, in the order R155's table names them first. -/
inductive StoreCause where
  | save | openNow | closeNow | schedule | fire | cleared | clearingLimit | shutDone | wake | key | keyReleased
  | wakeWithdrawn | opened | openingLimit | startUp
deriving DecidableEq, Repr

/-- The record of the last change of the store state (R155). -/
structure StoreChange where
  previous : Option StoreState
  cause : StoreCause
  time : Option Nat
deriving DecidableEq, Repr

/-- The Store Sequencer. `posted` is the closing progress: the offsets of the steps marked posted, first posted first
(R157). The limits and the key-hold time are in ms. -/
structure Day where
  clock : Option Nat
  schedule : Schedule
  state : StoreState
  last : StoreChange
  posted : List Nat
  wakeOpenNow : Bool
  wakeTime : Bool
  wakeKey : Bool
  key : Bool
  keyHold : Nat
  clearingLeft : Option Nat
  openingLeft : Option Nat
  forced : Bool
deriving DecidableEq, Repr

/-! ### Service Link (chapter 10) -/

/-- The twelve notice conditions in priority order (R177); a constructor's number is the condition's code. -/
inductive Condition where
  | fireStage | lineFault | conflict | chainHalt | shutterFault | storeState | callUrgent | call | callLost
  | loopState | log | logOverflow
deriving DecidableEq, Repr

/-- What a latched condition holds: its data and its raise count (R177). -/
structure Latched where
  data : List Byte
  raises : Nat
deriving DecidableEq, Repr

/-- A notice condition (R177, R178). -/
structure Notice where
  latched : Option Latched
  armed : Bool
deriving DecidableEq, Repr

/-- A complete request in a receive place (R174). -/
structure Held where
  tag : Byte
  kind : Byte
  body : Body
deriving DecidableEq, Repr

/-- Which taking a reply answers (R174, R182): the request in the serving place, the owed save, a RESTART. -/
inductive ReplyFor where
  | serving | owedSave | restart
deriving DecidableEq, Repr

/-- A reply ready to be sent (R175). -/
structure Reply where
  tag : Byte
  kind : Byte
  payload : List Byte
  answers : ReplyFor
deriving DecidableEq, Repr

/-- The frame the transmitter is sending (R176). -/
inductive Sending where
  | reply (r : Reply)
  | notice (payload : List Byte)
deriving DecidableEq, Repr

/-- The Service Link. `partialFrame` is none while the receiver hunts, and the bytes after the start byte while it
assembles (R173); `gapMs` is the gap timer: the ms since the last byte of a partial frame. -/
structure Link where
  partialFrame : Option (List Byte)
  gapMs : Nat
  serving : Option Held
  holding : Option Held
  owedSave : Option Byte
  ready : List Reply
  sending : Option Sending
  notices : List Notice
  crcDiscards : Nat
  gapDiscards : Nat
  overrunDiscards : Nat
  kindRefusals : Nat
deriving DecidableEq, Repr

/-! ### The whole part -/

/-- The state of the SC310. `choices` is the model's own counter of the free choices made so far (log entry 5);
`pending` is the queue of the commands waiting, first in, first out. -/
structure State where
  store : Commission
  chain : Chain
  board : Board
  shutters : Shutters
  fire : Fire
  intake : Intake
  calls : Calls
  announcer : Announcer
  day : Day
  link : Link
  choices : Nat
  pending : List Instr
deriving DecidableEq, Repr

/-- The manual names nothing that stops the part: no command ends in a fault. -/
inductive Fault where
deriving DecidableEq, Repr

/-- Refusals. -/
inductive Refusal where
  /-- Raised by `exec`'s arm of a command whose meaning is not modelled yet: safe. No arm raises it now. -/
  | notModelled (mnemonic : String)
deriving DecidableEq, Repr

/-! ### The state after reset -/

/-- An empty zone entry (R14). -/
def Zone.empty : Zone := ⟨.unused, 0, false, false⟩

/-- The tables after a failed image load (R14). -/
def Tables.empty : Tables where
  zones := List.replicate 32 Zone.empty
  site := ⟨0#64, 0, 0⟩
  shutters := List.replicate 32 none
  geometry := none
  landings := List.replicate 8 none
  filters := List.replicate 24 ⟨false, .range, 0, 0, .reject, false⟩
  phrases := List.replicate 256 ⟨0, 0⟩
  scriptA := none
  scriptE := none
  plan := List.replicate 6 none

/-- The timing set after a failed image load (R11). -/
def Timing.default : Timing where
  margin := 500
  dwell := 10
  gap := 1000
  groupDelay := 10
  escCounting := 0
  escFloor := 0
  clearingLimit := 20
  openingLimit := 10
  alertToEvac := 0
  alertRepeat := 60
  evacRepeat := 30
  holdThreshold := 8
  unmatchedToFloor := true
  overwriteCounting := false
  overwriteFloor := false

/-- The schedule after a failed image load (R14). -/
def Schedule.empty : Schedule := ⟨none, none, false, false, false⟩

/-- The Chain Tracker at power-on and pin reset (R40). -/
def Chain.start : Chain where
  state := .stopped
  p := 0
  synced := false
  lastSlip := none
  window := 0
  nPrev := 0
  nLast := 0
  restMs := 0
  driveOk := false
  parked := false
  stopPushes := 0

/-- The Boarding Monitor at power-on and pin reset (R54). -/
def Board.start : Board := ⟨none, []⟩

/-- The Shutter Controller from a reset until the first debounced reading of the inputs (R58). -/
def Shutters.start : Shutters where
  inputs := List.replicate 32 ⟨false, false, false, false⟩
  inputsRead := false
  failSafe := false
  units := List.replicate 32 none
  raiseQueue := []

/-- The Fire Stage Unit at a power-on reset (R89). -/
def Fire.start : Fire where
  state := .normal
  entry := none
  origin := none
  alertIn := none
  evacIn := none
  alertFault := none
  evacFault := none
  escalation := none
  schedule := none
  startUp := true

/-- A station entry at every reset (R112). -/
def Station.start : Station := ⟨true, 0, none, 0, 0⟩

/-- The Call Intake at every reset, before its first poll (R112). -/
def Intake.start : Intake where
  stations := List.replicate 64 Station.start
  counter := 0
  recovery := none
  poll := none
  fromLowest := false
  quietWait := false
  accepted := 0
  rejected := 0
  discarded := 0
  lastPress := none

/-- A queue and its annunciator at every reset (R126). -/
def Queue.start : Queue where
  head := 0
  calls := []
  timer := none
  lost := 0
  displaced := 0
  localAcks := 0
  pattern := .silent
  sinceGroup := none

/-- The Call Queue Unit at every reset (R126). -/
def Calls.start : Calls := ⟨Queue.start, Queue.start⟩

/-- The Announcement Sequencer at power-on and pin reset (R150). -/
def Announcer.start : Announcer where
  slots := List.replicate 9 .free
  waiting := none
  player := .idle
  dueA := false
  dueE := false
  timerA := none
  timerE := none
  runsA := 0
  runsE := 0
  log := []
  overflow := 0

/-- The Service Link at power-on and pin reset, before any block raises a condition (R183). -/
def Link.start : Link where
  partialFrame := none
  gapMs := 0
  serving := none
  holding := none
  owedSave := none
  ready := []
  sending := none
  notices := List.replicate 12 ⟨none, false⟩
  crcDiscards := 0
  gapDiscards := 0
  overrunDiscards := 0
  kindRefusals := 0

/-- The part right after a power-on reset with neither bank good (log entry 1): UNCONFIGURED, with STORE_STATE latched
by the start-up change (R14, R172, R183). -/
def State.reset : State where
  store := { tables := Tables.empty, timing := Timing.default, lock := false, unsaved := true, imageFault := false,
             bank0 := none, bank1 := none, saving := none }
  chain := Chain.start
  board := Board.start
  shutters := Shutters.start
  fire := Fire.start
  intake := Intake.start
  calls := Calls.start
  announcer := Announcer.start
  day := { clock := none, schedule := Schedule.empty, state := .unconfigured, last := ⟨none, .startUp, none⟩,
           posted := [], wakeOpenNow := false, wakeTime := false, wakeKey := false, key := false, keyHold := 0,
           clearingLeft := none, openingLeft := none, forced := false }
  link := { Link.start with notices :=
    [⟨none, false⟩, ⟨none, false⟩, ⟨none, false⟩, ⟨none, false⟩, ⟨none, false⟩,
     ⟨some ⟨[0#8, 0xFF#8, 14#8, 0xFF#8, 0xFF#8, 0xFF#8, 0#8], 1⟩, false⟩,
     ⟨none, false⟩, ⟨none, false⟩, ⟨none, false⟩, ⟨none, false⟩, ⟨none, false⟩, ⟨none, false⟩] }
  choices := 0
  pending := []

end Sys2Proof.Machine
end

