-- ==== Sys2Proof/Machine/Ops.lean ====
section
/-! DEFINITION. Named reads and writes of the state's tables, held counts, and the free choices. -/

namespace Sys2Proof.Machine

/-- One more, held at the end of a 16-bit count (R97, R109, R113, R146, R173). -/
def countUp (n : Nat) : Nat := min (n + 1) Config.maxCount

/-- The store state is UNCONFIGURED (R15). -/
def State.unconfigured (s : State) : Bool := s.day.state = .unconfigured

/-- The zone entry of a zone number (R2). -/
def State.zone (s : State) (z : Nat) : Zone := s.store.tables.zones.getD z Zone.empty

/-- The shutter record of a position; none when the position is not commissioned (R4). -/
def State.record (s : State) (n : Nat) : Option ShutterRec := s.store.tables.shutters.getD n none

/-- The debounced inputs of a position (R55). -/
def State.inputs (s : State) (n : Nat) : Inputs := s.shutters.inputs.getD n ⟨false, false, false, false⟩

/-- The running state of a position; none while it has none (R56, R58). -/
def State.unit (s : State) (n : Nat) : Option Shutter := s.shutters.units.getD n none

/-- The opening an OPENING record guards (R4). -/
def ShutterRec.opening? (r : ShutterRec) : Option Nat :=
  match r.kind with
  | .plain => none
  | .opening j _ => some j

/-- The final descent time T of an OPENING record, in ms (R4). -/
def ShutterRec.finalTime (r : ShutterRec) : Nat :=
  match r.kind with
  | .plain => 0
  | .opening _ t => t

/-- The shutter at a position is commissioned and stands in a night-close zone (R76). -/
def State.nightClose (s : State) (n : Nat) : Bool :=
  match s.record n with
  | none => false
  | some r => (s.zone r.zone).nightClose

/-- Apply an order to each shutter position chosen, in ascending index, and so of several shutters that one order sends to
FAULT the highest-numbered raises SHUTTER_FAULT last: the model's choice (log entry 45). -/
def forShutters (chosen : Nat → Bool) (order : Nat → State → State) (s : State) : State :=
  (List.range 32).foldl (fun s n => if chosen n then order n s else s) s

/-- One of several things that come into being together, "either may be taken first" (R50): the free choice of
`Config.firstTaken` when there are two or more, counted so that each choice is a fresh one (log entry 5). -/
def takeFirst (candidates : List Nat) (s : State) : Option Nat × State :=
  match candidates with
  | [] => (none, s)
  | [n] => (some n, s)
  | n :: m :: rest =>
    ((n :: m :: rest)[Config.firstTaken s.choices % (rest.length + 2)]?, { s with choices := s.choices + 1 })

end Sys2Proof.Machine
end

