-- ==== Sys2Proof/Machine/Operands.lean ====
section
/-! DEFINITION. Reading a request's fields into records, with the range checks and the clamping and rounding of
chapter 1 and R128, and the encodings of single reply fields (section 10.8). -/

namespace Sys2Proof.Machine

/-! ### Result codes (R175) -/

/-- The result codes of R175 in the order of their numbers. -/
inductive Result where
  | ok | badLength | badKind | badValue | badIndex | locked | wrongState | busy | empty | unconfigured | fireActive
  | noClock
deriving DecidableEq, Repr

/-- A reply payload: the result code, then the data that goes with it. -/
def Result.with (r : Result) (data : List Byte) : List Byte := u8 r.ctorIdx ++ data

/-! ### Reply field encodings (section 10.8) -/

/-- A yes-or-no or set-or-clear field. -/
def yesNo (b : Bool) : List Byte := u8 (if b then 1 else 0)

/-- A choice of two that its rule lists with the first one first: 0 for the first, 1 for the second. -/
def firstOr (first : Bool) : List Byte := u8 (if first then 0 else 1)

/-- An optional one-byte field, all ones when absent. -/
def opt8 (n : Option Nat) : List Byte := u8 (n.getD 0xFF)

/-- An optional two-byte field, all ones when absent. -/
def opt16 (n : Option Nat) : List Byte := u16 (n.getD 0xFFFF)

/-- An optional three-byte field, all ones when absent; a store time is carried so. -/
def opt24 (n : Option Nat) : List Byte := u24 (n.getD 0xFFFFFF)

/-- A signed number: two bytes, two's complement, high byte first. -/
def signed16 (i : Int) : List Byte := bytes16 (BitVec.ofInt 16 i)

/-- The last slip: a signed number, 0x8000 when absent. -/
def slip16 (i : Option Int) : List Byte := signed16 (i.getD (-32768))

/-- A list: its count, then its items. -/
def listOf (items : List (List Byte)) : List Byte := u8 items.length ++ items.flatten

/-- Time left of `ms` milliseconds in whole seconds; what becomes of a part of a second is free (log entry 6). -/
def seconds (ms : Nat) : Nat :=
  if ms % 1000 = 0 then ms / 1000 else if Config.roundsUp ms then ms / 1000 + 1 else ms / 1000

/-! ### Ranges -/

/-- Clamp into a range (R11). -/
def clamp (lo hi n : Nat) : Nat := if n < lo then lo else if hi < n then hi else n

/-- Clamp where 0 means "off" or "never" (R11): 0 stays 0. -/
def clampOff (lo hi n : Nat) : Nat := if n = 0 then 0 else clamp lo hi n

/-- The value of n lies in a range. -/
def inRange (lo hi n : Nat) : Bool := lo ≤ n && n ≤ hi

/-- A yes-or-no byte of a commissioning write: a code above 1 is out of range (R1 check 4). -/
def flag? (b : Byte) : Option Bool :=
  if b = 0#8 then some false else if b = 1#8 then some true else none

/-- A yes-or-no byte of SET_SCHEDULE or SET_WAKE: a code above 1 is free (log entry 4). -/
def freeFlag? (b : Byte) : Option Bool :=
  if b = 0#8 then some false else if b = 1#8 then some true else Config.strayYesNo b.toNat

def zoneType? : Nat → Option ZoneType
  | 0 => some .unused | 1 => some .sales | 2 => some .stair | 3 => some .paternosterHall | 4 => some .countingHouse
  | 5 => some .stockRoom | _ => none

def filterKind? : Nat → Option FilterKind
  | 0 => some .range | 1 => some .pair | 2 => some .mask | _ => none

def action? : Nat → Option Action
  | 0 => some .toCounting | 1 => some .toFloor | 2 => some .urgentCounting | 3 => some .urgentFloor
  | 4 => some .reject | 5 => some .chainStop | _ => none

def queueName? : Nat → Option QueueName
  | 0 => some .counting | 1 => some .floor | _ => none

/-- A zone entry with every field in range (R2): for an UNUSED zone night-close and hush are stored as no, whatever
the request carried. -/
def zoneEntry? (type group nightClose hush : Byte) : Option Zone :=
  match zoneType? type.toNat with
  | none => none
  | some t =>
    if !inRange 0 15 group.toNat then none
    else if t = .unused then some ⟨t, group.toNat, false, false⟩
    else match flag? nightClose, flag? hush with
      | some n, some h => some ⟨t, group.toNat, n, h⟩
      | _, _ => none

/-- The checks of R8 on a script. -/
def script? (f : ScriptFields) : Option Script :=
  if f.chime.toNat ≤ 7 && inRange 1 12 f.phrases.length && f.groups != 0#16 && f.cls.toNat ≤ 7 then
    some ⟨f.chime.toNat, f.phrases.map BitVec.toNat, f.groups, f.cls.toNat, f.marker.toNat⟩
  else none

/-- A time of R4: 500 to 20,000 ms, rounded down to a step of 100 ms. -/
def stepTime? (ms : Nat) : Option Nat := if inRange 500 20000 ms then some (ms - ms % 100) else none

/-- The range checks of R5 on a chain geometry. -/
def geometry? (g : ChainFields) : Option Geometry :=
  let offsets := g.offsets.map BitVec.toNat
  let length := g.length.toNat
  if inRange 2048 60000 length && inRange 2 24 offsets.length && offsets.head? = some 0 &&
      decide (offsets.Pairwise (· < ·)) && offsets.all (· < length) && inRange 10 500 g.halfWidth.toNat &&
      inRange 1 255 g.tolerance.toNat && decide (g.park.toNat < length) && g.stopping.toNat ≤ 2000 then
    some ⟨length, offsets, g.halfWidth.toNat, g.tolerance.toNat, g.park.toNat, g.stopping.toNat⟩
  else none

/-- A filter entry with every field in range (R7). -/
def filter? (enabled kind first second action night : Byte) : Option FilterEntry :=
  match flag? enabled, filterKind? kind.toNat, action? action.toNat, flag? night with
  | some e, some k, some a, some n => some ⟨e, k, first.toNat, second.toNat, a, n⟩
  | _, _, _, _ => none

/-- The timing set as stored: each item clamped as R11 gives. -/
def timingOf (f : TimingFields) : Timing where
  margin := clamp 0 5000 f.margin.toNat
  dwell := clamp 5 60 f.dwell.toNat
  gap := clamp 0 10000 f.gap.toNat
  groupDelay := clamp 0 30 f.groupDelay.toNat
  escCounting := clampOff 30 900 f.escCounting.toNat
  escFloor := clampOff 30 900 f.escFloor.toNat
  clearingLimit := clamp 1 60 f.clearingLimit.toNat
  openingLimit := clamp 1 30 f.openingLimit.toNat
  alertToEvac := clampOff 30 600 f.alertToEvac.toNat
  alertRepeat := clamp 30 600 f.alertRepeat.toNat
  evacRepeat := clamp 10 120 f.evacRepeat.toNat
  holdThreshold := clamp 1 8 f.holdThreshold.toNat
  unmatchedToFloor := f.defaultAction = 1#8
  overwriteCounting := f.modeCounting = 1#8
  overwriteFloor := f.modeFloor = 1#8

/-- An optional store time of a request: 0xFFFFFF is absent, and a value of 86,400 or above is out of range
(`none`); section 10.8, R154. -/
def optTime? (t : BitVec 24) : Option (Option Nat) :=
  if t = 0xFFFFFF#24 then some none else if t.toNat < Config.day then some (some t.toNat) else none

end Sys2Proof.Machine
end

