-- ==== Sys2Proof/Machine/Flags.lean ====
section
/-! DEFINITION. The notice conditions of the service link (R177 to R180): raising, arming, sending and clearing. -/

namespace Sys2Proof.Machine

/-- A raise of one condition (R177): latched with the new data; the raise count is 1, or one more, held at 255. The
arm flag is not changed. -/
def Notice.raise (data : List Byte) (c : Notice) : Notice :=
  { c with latched := match c.latched with
      | none => some ⟨data, 1⟩
      | some l => some ⟨data, min (l.raises + 1) 255⟩ }

/-- A block raises a notice condition (R177). -/
def raise (c : Condition) (data : List Byte) (s : State) : State :=
  { s with link := { s.link with notices := s.link.notices.modify c.ctorIdx (Notice.raise data) } }

/-- The condition of a code (R177). -/
def State.notice (s : State) (code : Nat) : Notice := s.link.notices.getD code ⟨none, false⟩

/-- A condition is due for a notice while it is latched and its arm flag is set (R178). -/
def Notice.due (c : Notice) : Bool := c.latched.isSome && c.armed

/-- The code of the highest-priority condition due (R176). -/
def Link.dueNotice (l : Link) : Option Nat := l.notices.findIdx? Notice.due

/-- A set of conditions names a code above 11 (R179, R180). -/
def namesBadCode (set : BitVec 16) : Bool := 4096 ≤ set.toNat

/-- Set the arm flag of each condition in a set (R179). -/
def armNotices (set : BitVec 16) (l : Link) : Link :=
  { l with notices := l.notices.mapIdx fun i c => if set.getLsbD i then { c with armed := true } else c }

/-- Clear each latched condition in a set (R180): flag, data and raise count go, the arm flag stays. -/
def clearNotices (set : BitVec 16) (l : Link) : Link :=
  { l with notices := l.notices.mapIdx fun i c => if set.getLsbD i then { c with latched := none } else c }

/-- A set of conditions as two bytes: bit g for condition g (section 10.8). -/
def conditionSet (pick : Notice → Bool) (l : Link) : List Byte :=
  u16 ((l.notices.mapIdx fun i c => if pick c then 2 ^ i else 0).sum)

/-- The arm flags and latched flags of all twelve conditions (R179, R180). -/
def noticeFlags (l : Link) : List Byte := conditionSet Notice.armed l ++ conditionSet (·.latched.isSome) l

end Sys2Proof.Machine
end

