-- ==== Sys2Proof/Machine/Chain.lean ====
section
/-! DEFINITION. The Chain Tracker (chapter 2): its conditions, the orders and halts it takes, and what it does by itself
once a count or a window has changed. -/

namespace Sys2Proof.Machine

/-- The chain state by name (R25). -/
def ChainState.phase : ChainState → ChainPhase
  | .stopped => .stopped
  | .syncRun _ => .syncRun
  | .running => .running
  | .clearOut _ => .clearOut
  | .parking => .parking
  | .stopping _ => .stopping
  | .halted _ => .halted

/-- The RUN output (R25): on in the RUN states SYNC_RUN, RUNNING, CLEAR_OUT and PARKING. -/
def ChainState.runs : ChainState → Bool
  | .syncRun _ => true
  | .running => true
  | .clearOut _ => true
  | .parking => true
  | .stopped => false
  | .stopping _ => false
  | .halted _ => false

/-- The SLOW output (R25). -/
def ChainState.slow : ChainState → Bool
  | .syncRun _ => true
  | _ => false

/-- The chain is moving (R24); it is at rest otherwise. -/
def Chain.moving (c : Chain) : Bool := c.nPrev != 0 || c.nLast != 0 || c.state.runs

/-- The chain speed in pulses per second (R23). -/
def Chain.speed (c : Chain) : Nat := (2 * (c.nPrev + c.nLast)).toNat

/-- While the chain is moving the rest time is 0 (R24) and the parked flag is clear (R35). -/
def Chain.restFix (c : Chain) : Chain := if c.moving then { c with restMs := 0, parked := false } else c

/-- The geometry the position is counted in: none while it is absent or the store is UNCONFIGURED (R18, R20). -/
def State.counting (s : State) : Option Geometry := if s.unconfigured then none else s.store.tables.geometry

/-- Put the chain into a state, with what that does to the rest time and the parked flag. -/
def setChain (st : ChainState) (s : State) : State :=
  { s with chain := Chain.restFix { s.chain with state := st } }

/-- The halt record as the CHAIN_HALT notice carries it (R36, R177). -/
def HaltRec.bytes (h : HaltRec) : List Byte :=
  u8 h.cause.ctorIdx ++ opt8 h.code ++ u8 h.left.ctorIdx ++ u16 h.p ++ firstOr h.synced ++ opt24 h.time

/-- The chain goes to HALTED (R36): the halt record is written, CHAIN_HALT is raised, and a stop push's code is placed
in the stop-push set. -/
def haltNow (cause : HaltCause) (code : Option Nat) (s : State) : State :=
  let h : HaltRec := ⟨cause, code, s.chain.state.phase, s.chain.p, s.chain.synced, s.day.clock⟩
  let s := setChain (.halted h) s
  let pushes := match code with
    | none => s.chain.stopPushes
    | some c => s.chain.stopPushes ||| BitVec.twoPow 256 c
  raise .chainHalt h.bytes { s with chain := { s.chain with stopPushes := pushes } }

/-- A halt cause other than a stop push (R36): it halts a chain in a RUN state and changes nothing in another. -/
def haltIfRunning (cause : HaltCause) (s : State) : State :=
  if s.chain.state.runs then haltNow cause none s else s

/-- A stop push (R36, R37): it halts the chain from every state but HALTED, where its code joins the set. -/
def stopPush (code : Nat) (s : State) : State :=
  match s.chain.state with
  | .halted _ => { s with chain := { s.chain with stopPushes := s.chain.stopPushes ||| BitVec.twoPow 256 code } }
  | _ => haltNow .stopPush (some code) s

/-- A clear-out order (R29). -/
def clearOutOrder (s : State) : State :=
  match s.chain.state with
  | .running => setChain (.clearOut 0) s
  | .syncRun _ => setChain (.clearOut 0) s
  | _ => s

/-- The stop of CHAIN_STOP, of the store's stop order and of a RESTART (R33, R34, R41). -/
def stopChain (s : State) : State := if s.chain.state.runs then setChain (.stopping .plain) s else s

/-- The park distance (R31). -/
def parkDistance (g : Geometry) (p : Nat) : Nat := (g.park + g.length - p) % g.length

/-- The test of R31, made on entry to PARKING and after every step and index check. -/
def parkTest (s : State) : State :=
  match s.chain.state, s.store.tables.geometry with
  | .parking, some g =>
    if !s.chain.synced then setChain (.stopping .plain) s
    else if parkDistance g s.chain.p ≤ g.stopping then setChain (.stopping .park) s
    else s
  | _, _ => s

/-- A STOPPING chain that is at rest goes to STOPPED, with the parked flag for intent "park" (R35). -/
def restTest (s : State) : State :=
  match s.chain.state with
  | .stopping intent =>
    if s.chain.moving then s
    else { s with chain := { s.chain with state := .stopped, parked := intent = .park } }
  | _ => s

/-- What the tracker does by itself after a change. -/
def chainSettle (s : State) : State := restTest (parkTest s)

/-- The signed error of an index check: p reduced into (−L/2, L/2] (R20). -/
def indexError (g : Geometry) (p : Nat) : Int := if 2 * p ≤ g.length then (p : Int) else (p : Int) - (g.length : Int)

/-- The sync-run limit: 1.25 × L, rounded down (R28). -/
def syncLimit (g : Geometry) : Nat := g.length * 5 / 4

/-- One step into a speed window, held within −2,047 to 2,047 (R22). -/
def windowStep (forward : Bool) (n : Int) : Int := if forward then min (n + 1) 2047 else max (n - 1) (-2047)

/-- One step of the position, modulo L (R18). -/
def positionStep (forward : Bool) (g : Geometry) (p : Nat) : Nat :=
  if forward then (p + 1) % g.length else (p + g.length - 1) % g.length

/-- A step into the working count of the state in hand: the sync-run count with its limit (R28), the clear-out count
with its end (R30). -/
def workingStep (forward : Bool) (g : Geometry) (s : State) : State :=
  match s.chain.state with
  | .syncRun n =>
    if syncLimit g ≤ n + 1 then haltNow .noIndex none s
    else { s with chain := { s.chain with state := .syncRun (n + 1) } }
  | .clearOut n =>
    let n' := if forward then n + 1 else n - 1
    if g.length ≤ n' then setChain .parking s else { s with chain := { s.chain with state := .clearOut n' } }
  | _ => s

/-- An encoder step in the tracker (R18, R22, R28, R30). -/
def encoderStep (forward : Bool) (s : State) : State :=
  let s := { s with chain := { s.chain with window := windowStep forward s.chain.window } }
  match s.counting with
  | none => s
  | some g => workingStep forward g { s with chain := { s.chain with p := positionStep forward g s.chain.p } }

/-- An index check in the tracker (R20, R28, R36). -/
def indexCheck (s : State) : State :=
  match s.counting with
  | none => s
  | some g =>
    let e := indexError g s.chain.p
    if !s.chain.synced then
      let s := { s with chain := { s.chain with p := 0, synced := true } }
      match s.chain.state with
      | .syncRun _ => setChain .running s
      | _ => s
    else if e.natAbs ≤ g.tolerance then
      { s with chain := { s.chain with p := 0, lastSlip := some e } }
    else haltIfRunning .slip { s with chain := { s.chain with synced := false, lastSlip := some e } }

/-- A speed window completes (R22). -/
def windowComplete (s : State) : State :=
  { s with chain := Chain.restFix { s.chain with nPrev := s.chain.nLast, nLast := s.chain.window, window := 0 } }

end Sys2Proof.Machine
end

