-- ==== Sys2Proof/Machine/Clearance.lean ====
section
/-! DEFINITION. The Boarding Monitor's computed picture (chapter 3): opening status, clearance, and whether a curtain is
in the doorway. Nothing of it is stored (R46). -/

namespace Sys2Proof.Machine

/-- The nearest approach to an unoccupied opening (R44, R45): entry distance, nearest cabin, time to entry in ms. -/
structure Approach where
  distance : Nat
  cabin : Nat
  time : Nat
deriving DecidableEq, Repr

/-- The status of an opening (R42); the fields of an opening not present are absent. -/
structure OpeningStatus where
  present : Bool
  occupant : Option Nat
  approach : Option Approach
deriving DecidableEq, Repr

/-- The geometry and the position of a present opening (R42). -/
def State.opening (s : State) (j : Nat) : Option (Geometry × Nat) :=
  match s.counting, s.store.tables.landings.getD (j / 2) none with
  | some g, some l => some (g, if j % 2 = 0 then l.up else l.dn)
  | _, _ => none

/-- The coordinates of the cabin floors, cabin 0 first (R19). -/
def cabins (g : Geometry) (p : Nat) : List Nat := g.offsets.map fun o => (o + p) % g.length

/-- The leading edge a − w of an opening's boarding window (R42). -/
def leadingEdge (g : Geometry) (a : Nat) : Nat := (a + g.length - g.halfWidth) % g.length

/-- A cabin floor at c lies in the window that begins at `lead` (R43). -/
def inWindow (g : Geometry) (lead c : Nat) : Bool := (c + g.length - lead) % g.length ≤ 2 * g.halfWidth

/-- The lowest-numbered cabin in the window (R42, R43). -/
def occupant (g : Geometry) (p a : Nat) : Option Nat := (cabins g p).findIdx? (inWindow g (leadingEdge g a))

/-- The entry distance of a cabin floor at c (R44). -/
def entryDistance (g : Geometry) (lead c : Nat) : Nat := (lead + g.length - c) % g.length

/-- The smallest entry distance and the cabin that gives it, the lower number first (R44). -/
def nearest (g : Geometry) (lead : Nat) : Nat → List Nat → Option (Nat × Nat)
  | _, [] => none
  | k, c :: cs =>
    match nearest g lead (k + 1) cs with
    | none => some (entryDistance g lead c, k)
    | some (d, i) => if entryDistance g lead c ≤ d then some (entryDistance g lead c, k) else some (d, i)

/-- The time to entry in ms (R45). -/
def timeToEntry (d v : Nat) : Nat := if v = 0 then 65535 else min (d * 1000 / v) 65535

/-- The status of opening j as it stands (R42 to R45). -/
def State.openingStatus (s : State) (j : Nat) : OpeningStatus :=
  match s.opening j with
  | none => ⟨false, none, none⟩
  | some (g, a) =>
    match occupant g s.chain.p a with
    | some k => ⟨true, some k, none⟩
    | none =>
      ⟨true, none, (nearest g (leadingEdge g a) 0 (cabins g s.chain.p)).map fun (d, k) =>
        ⟨d, k, timeToEntry d s.chain.speed⟩⟩

/-- Ground (a) of R47, the count: synced, present, unoccupied, and t at least T + M. -/
def State.clearByCount (s : State) (j finalTime : Nat) : Bool :=
  s.chain.synced && match (s.openingStatus j).approach with
    | none => false
    | some a => finalTime + s.store.timing.margin ≤ a.time

/-- The chain has been at rest for the step-off dwell (R47 ground (b), R69). -/
def State.restedForDwell (s : State) : Bool := !s.chain.moving && s.store.timing.dwell * 1000 ≤ s.chain.restMs

/-- Ground (b) of R47, the dwell, for an opening that is present. -/
def State.clearByDwell (s : State) (j : Nat) : Bool := (s.openingStatus j).present && s.restedForDwell

/-- The shutter of a record is clear (R47). -/
def State.clearFor (s : State) (r : ShutterRec) : Bool :=
  match r.kind with
  | .plain => false
  | .opening j t => s.clearByCount j t || s.clearByDwell j

/-- A shutter is braked at the clear line (R49): in HELD with the mark. -/
def brakedAtClearLine : Option Shutter → Bool
  | some ⟨.held true, _, _, _, _⟩ => true
  | _ => false

/-- The curtain of an OPENING shutter is in the doorway (R49), read from the first debounced inputs on (R54). -/
def State.inDoorway (s : State) (n : Nat) : Bool :=
  s.shutters.inputsRead && !(s.inputs n).clear && !(s.inputs n).bottom && !brakedAtClearLine (s.unit n)

/-- The conflict condition of R50 at shutter n. -/
def State.conflictAt (s : State) (n : Nat) : Bool :=
  match s.record n with
  | none => false
  | some r => match r.opening? with
    | none => false
    | some j => s.inDoorway n && (s.openingStatus j).occupant.isSome && s.chain.moving

/-- The shutters at which a conflict exists, ascending (R50). -/
def State.conflicts (s : State) : List Nat := (List.range 32).filter s.conflictAt

end Sys2Proof.Machine
end

