-- ==== Sys2Proof/Machine/Shutters.lean ====
section
/-! DEFINITION. The Shutter Controller (chapter 4): the state machine of one shutter, the orders that reach it, the raise
queue and the raise arbiter. -/

namespace Sys2Proof.Machine

/-! ### One shutter -/

/-- The shutter state by name (R56). -/
def ShutterState.phase : ShutterState → ShutterPhase
  | .isOpen => .isOpen
  | .dropping _ => .dropping
  | .held _ => .held
  | .final _ => .final
  | .paused .. => .paused
  | .closed => .closed
  | .raiseWait => .raiseWait
  | .raising _ => .raising
  | .fault .. => .fault

/-- The RELEASE output of a commissioned shutter (R57). -/
def ShutterState.release : ShutterState → Bool
  | .dropping _ => true
  | .final _ => true
  | _ => false

/-- The MOTOR_UP output of a commissioned shutter (R57). -/
def ShutterState.motorUp : ShutterState → Bool
  | .raising _ => true
  | _ => false

/-- The fault cause in FAULT (R56). -/
def ShutterState.faultCause? : ShutterState → Option FaultCause
  | .fault c _ => some c
  | _ => none

/-- A shutter that has just been given its state (R58): obstruction count 0, flags clear. -/
def Shutter.fresh (st : ShutterState) : Shutter := ⟨st, 0, false, false, false⟩

/-- The state a shutter takes from its limit inputs (R58). -/
def stateFromLimits (i : Inputs) : ShutterState :=
  match i.top, i.bottom with
  | true, false => .isOpen
  | false, true => .closed
  | false, false => .fault .positionUnknown 0
  | true, true => .fault .limitConflict 0

/-- The limit of DROPPING: 1.5 × T1 (R60, R61). -/
def ShutterRec.dropLimit (r : ShutterRec) : Nat := r.dropTime * 3 / 2

/-- The limit of FINAL: 1.5 × T (R63). -/
def ShutterRec.finalLimit (r : ShutterRec) : Nat := r.finalTime * 3 / 2

/-- The limit of RAISING, in ms (R72). -/
def ShutterRec.raiseMs (r : ShutterRec) : Nat := r.raiseLimit * 1000

/-- Enter CLOSED, where the obstruction count returns to 0 (R65). -/
def Shutter.close (sh : Shutter) : Shutter := { sh with state := .closed, obstructions := 0 }

/-- Enter OPEN, where the obstruction count returns to 0 (R65). -/
def Shutter.reachTop (sh : Shutter) : Shutter := { sh with state := .isOpen, obstructions := 0 }

/-- EDGE interrupts a descent (R65): a pause, or FAULT at the third. -/
def Shutter.obstruct (phase : ResumePhase) (sh : Shutter) : Shutter :=
  if sh.obstructions + 1 < 3 then
    { sh with state := .paused .obstruction phase 0, obstructions := sh.obstructions + 1 }
  else { sh with state := .fault .obstructed 0, obstructions := 3 }

/-- Entry to DROPPING (R59 to R61, R65), with what happens at once on entry. BOTTOM is looked at first, then CLEAR,
then EDGE (log entry 15). -/
def Shutter.drop (r : ShutterRec) (i : Inputs) (sh : Shutter) : Shutter :=
  if i.bottom then sh.close
  else if r.opening?.isSome && !i.clear then { sh with state := .held false }
  else if i.edge then sh.obstruct .dropping
  else { sh with state := .dropping r.dropLimit }

/-- Entry to FINAL (R62, R63, R65), with what happens at once on entry. -/
def Shutter.beginFinal (r : ShutterRec) (i : Inputs) (sh : Shutter) : Shutter :=
  if i.bottom then sh.close
  else if i.edge then sh.obstruct .final
  else { sh with state := .final r.finalLimit }

/-- What a shutter does when one of its inputs has changed to what `i` now shows (R60 to R63, R65 to R67, R73). -/
def Shutter.react (r : ShutterRec) (i : Inputs) (sh : Shutter) : Shutter :=
  match sh.state with
  | .dropping _ =>
    if i.bottom then sh.close
    else if r.opening?.isSome && !i.clear then { sh with state := .held true }
    else if i.edge then sh.obstruct .dropping
    else sh
  | .final _ => if i.bottom then sh.close else if i.edge then sh.obstruct .final else sh
  | .held _ => if i.bottom then sh.close else sh
  | .paused cause phase t =>
    if i.bottom then sh.close else { sh with state := .paused cause phase (if i.edge then 0 else t) }
  | .raising _ => if i.top then sh.reachTop else sh
  | .fault cause t => { sh with state := .fault cause (if i.edge then 0 else t) }
  | .isOpen => sh
  | .closed => sh
  | .raiseWait => sh

/-- A conflict pause (R68). -/
def Shutter.conflictPause (sh : Shutter) : Shutter :=
  match sh.state with
  | .final _ => { sh with state := .paused .conflict .final 0 }
  | .dropping _ => { sh with state := .paused .conflict .dropping 0 }
  | .held _ => { sh with state := .paused .conflict .final 0 }
  | .paused _ phase _ => { sh with state := .paused .conflict phase 0 }
  | _ => sh

/-- A shutter is done for the night or for the morning: OPEN or in FAULT (R170). -/
def upOrFault : Option Shutter → Bool
  | some ⟨.isOpen, _, _, _, _⟩ => true
  | some ⟨.fault .., _, _, _, _⟩ => true
  | _ => false

/-- CLOSED or in FAULT (R162). -/
def downOrFault : Option Shutter → Bool
  | some ⟨.closed, _, _, _, _⟩ => true
  | some ⟨.fault .., _, _, _, _⟩ => true
  | _ => false

/-- OPEN or CLOSED (R4, R6). -/
def openOrClosed : Option Shutter → Bool
  | some ⟨.isOpen, _, _, _, _⟩ => true
  | some ⟨.closed, _, _, _, _⟩ => true
  | _ => false

/-- RAISING (R72). -/
def isRaising : Option Shutter → Bool
  | some ⟨.raising _, _, _, _, _⟩ => true
  | _ => false

/-! ### Shutters in the state -/

/-- Store a shutter's new running state. Entering FAULT raises SHUTTER_FAULT with the index and the cause (R64). -/
def putUnit (n : Nat) (sh : Shutter) (s : State) : State :=
  let was := (s.unit n).bind fun u => u.state.faultCause?
  let s' := { s with shutters := { s.shutters with units := s.shutters.units.set n (some sh) } }
  match was, sh.state.faultCause? with
  | none, some cause => raise .shutterFault (u8 n ++ u8 cause.ctorIdx) s'
  | _, _ => s'

/-- Take a shutter out of the raise queue; those behind it keep their order (R71). -/
def leaveQueue (n : Nat) (s : State) : State :=
  { s with shutters := { s.shutters with raiseQueue := s.shutters.raiseQueue.filter (· != n) } }

/-- A lower order (R59). Every order skips a position that is not commissioned or has no state yet (R4, log entry 16). -/
def lowerOrder (n : Nat) (s : State) : State :=
  match s.record n, s.unit n with
  | some r, some sh =>
    match sh.state with
    | .isOpen => putUnit n (sh.drop r (s.inputs n)) s
    | .raising _ => putUnit n (sh.drop r (s.inputs n)) s
    | .raiseWait => putUnit n (sh.drop r (s.inputs n)) (leaveQueue n s)
    | _ => s
  | _, _ => s

/-- Set the fire-ordered flag, as an ALERT order or an origin order does (R74). -/
def flagFireOrdered (n : Nat) (s : State) : State :=
  match s.unit n with
  | none => s
  | some sh => { s with shutters := { s.shutters with
      units := s.shutters.units.set n (some { sh with fireOrdered := true }) } }

/-- The shutter in FAULT OBSTRUCTED has an order of the present fire that lets it try again (R67): its group's order,
outside the STAIR zones, or the origin order of the floor that is the origin. The zone's type is read as it stands and the
order is one that reached this shutter, so a zone rewritten between the two ends or withholds the retry: the model's choice
(log entry 38). -/
def State.retryOrdered (s : State) (n : Nat) : Bool :=
  match s.record n, s.unit n with
  | some r, some sh =>
    (sh.groupOrdered && (s.zone r.zone).type != .stair) || (sh.originOrdered && s.fire.origin = some (r.zone / 4))
  | _, _ => false

/-- The retry time counts from the moment the order reached the shutter if that is the later (R67). A further order that
reaches a shutter already counting lets the count go on: the model's choice (log entry 33). -/
def Shutter.restartRetry (counting : Bool) (sh : Shutter) : Shutter :=
  match sh.state with
  | .fault c t => { sh with state := .fault c (if counting then t else 0) }
  | _ => sh

/-- Remember that a group order has reached a shutter (R67, R75). -/
def markGroupOrdered (n : Nat) (s : State) : State :=
  match s.unit n with
  | none => s
  | some sh =>
    let sh := sh.restartRetry (s.retryOrdered n)
    { s with shutters := { s.shutters with units := s.shutters.units.set n (some { sh with groupOrdered := true }) } }

/-- Remember that an origin order has reached a shutter (R67, R74); asked before the origin floor is replaced. -/
def markOriginOrdered (counting : Bool) (n : Nat) (s : State) : State :=
  match s.unit n with
  | none => s
  | some sh =>
    let sh := sh.restartRetry counting
    { s with shutters := { s.shutters with units := s.shutters.units.set n (some { sh with originOrdered := true }) } }

/-- A raise that R70 accepts: obstruction count 0, RAISE_WAIT, the tail of the raise queue. -/
def acceptRaise (n : Nat) (sh : Shutter) (s : State) : State :=
  let s := putUnit n { sh with state := .raiseWait, obstructions := 0 } s
  { s with shutters := { s.shutters with raiseQueue := s.shutters.raiseQueue ++ [n] } }

/-- The checks of a raise order and its effect (R70): the result, and the state after it. -/
def raiseOrder (fromOffice : Bool) (n : Nat) (s : State) : Result × State :=
  match s.record n with
  | none => (.empty, s)
  | some _ =>
    if s.fire.state = .evacuate then (.fireActive, s)
    else if s.fire.state = .alert && ((s.unit n).map Shutter.fireOrdered).getD false then (.fireActive, s)
    else if fromOffice && (s.day.state = .shutting || s.day.state = .shut || s.day.state = .waking) && s.nightClose n
      then (.wrongState, s)
    else match s.unit n with
      | none => (.wrongState, s)
      | some sh =>
        match sh.state with
        | .closed => (.ok, acceptRaise n sh s)
        | .fault .limitConflict _ => (.wrongState, s)
        | .fault _ _ => (.ok, acceptRaise n sh s)
        | .isOpen => (.ok, s)
        | .raiseWait => (.ok, s)
        | .raising _ => (.ok, s)
        | .dropping _ => (.wrongState, s)
        | .held _ => (.wrongState, s)
        | .final _ => (.wrongState, s)
        | .paused .. => (.wrongState, s)

/-- How many shutters are RAISING (R72). -/
def State.raisingCount (s : State) : Nat := (s.shutters.units.filter isRaising).length

/-- The arbiter takes one shutter, in RAISE_WAIT as all in the queue are (R71), from the head of the queue to RAISING, or
to OPEN if its TOP is active (R72). -/
def startRaise (n : Nat) (s : State) : State :=
  match s.record n, s.unit n with
  | some r, some sh =>
    match sh.state with
    | .raiseWait =>
      if (s.inputs n).top then putUnit n sh.reachTop s else putUnit n { sh with state := .raising r.raiseMs } s
    | _ => s
  | _, _ => s

/-- The arbiter takes heads until four shutters are RAISING or the queue is empty, and none in EVACUATE (R72). -/
def arbiterLoop : Nat → State → State
  | 0, s => s
  | k + 1, s =>
    match s.shutters.raiseQueue with
    | [] => s
    | n :: rest =>
      if s.fire.state != .evacuate && s.raisingCount < 4 then
        arbiterLoop k (startRaise n { s with shutters := { s.shutters with raiseQueue := rest } })
      else s

/-- The raise arbiter (R72). -/
def arbiter (s : State) : State := arbiterLoop s.shutters.raiseQueue.length s

/-- Stop a raise at EVACUATE entry (R75): a shutter RAISING or in the raise queue goes to DROPPING, or to CLOSED if its
BOTTOM is active. -/
def stopRaise (n : Nat) (s : State) : State :=
  match s.record n, s.unit n with
  | some r, some sh =>
    match sh.state with
    | .raising _ => putUnit n (sh.drop r (s.inputs n)) s
    | .raiseWait => putUnit n (sh.drop r (s.inputs n)) s
    | _ => s
  | _, _ => s

/-- Every raise is stopped and the raise queue emptied (R75). -/
def stopRaises (s : State) : State :=
  let s := forShutters (fun _ => true) stopRaise s
  { s with shutters := { s.shutters with raiseQueue := [] } }

/-- A new EVACUATE has ordered no group yet (R67). -/
def forgetGroupOrders (s : State) : State :=
  { s with shutters := { s.shutters with
      units := s.shutters.units.map (Option.map fun sh => { sh with groupOrdered := false }) } }

/-- The lower order to close group g, outside the STAIR zones (R75, R87). -/
def groupOrder (g : Nat) (s : State) : State :=
  let named := fun n => match s.record n with
    | none => false
    | some r => r.group = g && (s.zone r.zone).type != .stair
  forShutters named (fun n s => markGroupOrdered n (lowerOrder n s)) s

/-- The ALERT order: every shutter in a STOCK_ROOM zone is lowered and fire-ordered (R74, R84). -/
def alertOrder (s : State) : State :=
  let named := fun n => match s.record n with
    | none => false
    | some r => (s.zone r.zone).type = .stockRoom
  forShutters named (fun n s => flagFireOrdered n (lowerOrder n s)) s

/-- The origin order: every shutter on the floor is lowered and fire-ordered, and the floor becomes the origin (R74,
R88). -/
def originOrder (floor : Nat) (s : State) : State :=
  let named := fun n => match s.record n with
    | none => false
    | some r => r.zone / 4 = floor
  let s' := forShutters named
    (fun n s => markOriginOrdered (s.retryOrdered n) n (flagFireOrdered n (lowerOrder n s))) s
  { s' with fire := { s'.fire with origin := some floor } }

/-- At the return to NORMAL every fire-ordered flag is cleared and every retry discarded (R77). -/
def Shutter.forgetFire (sh : Shutter) : Shutter :=
  { sh with
    fireOrdered := false, groupOrdered := false, originOrdered := false
    state := match sh.state with
      | .fault c _ => .fault c 0
      | st => st }

/-- The return to NORMAL at the Shutter Controller (R77). -/
def shuttersToNormal (s : State) : State :=
  { s with shutters := { s.shutters with units := s.shutters.units.map (Option.map Shutter.forgetFire) } }

/-- Lower every night-close shutter, STAIR-zone shutters among them (R76, R162). -/
def nightCloseOrder (s : State) : State := forShutters s.nightClose lowerOrder s

/-- Raise every night-close shutter that is CLOSED, in ascending index (R76, R170); a refused raise has no effect. -/
def morningRaise (s : State) : State :=
  let chosen := fun n => s.nightClose n && ((s.unit n).map fun sh => decide (sh.state = .closed)).getD false
  forShutters chosen (fun n s => (raiseOrder false n s).2) s

/-- Every commissioned shutter takes its state from its limit inputs (R58). -/
def statesFromLimits (s : State) : State :=
  forShutters (fun n => (s.record n).isSome)
    (fun n s => putUnit n (Shutter.fresh (stateFromLimits (s.inputs n))) s) s

/-- The outputs of a position as driven (R4, R15, R16, R57): RELEASE. -/
def State.releaseOut (s : State) (n : Nat) : Bool :=
  if s.unconfigured then s.shutters.failSafe
  else match s.unit n with
    | none => false
    | some sh => sh.state.release

/-- The outputs of a position as driven (R4, R16, R57): MOTOR_UP. -/
def State.motorOut (s : State) (n : Nat) : Bool :=
  if s.unconfigured then false
  else match s.unit n with
    | none => false
    | some sh => sh.state.motorUp

end Sys2Proof.Machine
end

