-- ==== Sys2Proof/Machine/Boarding.lean ====
section
/-! DEFINITION. What the Boarding Monitor and the waiting shutters do after a change (R46, R48, R50, R51, R62, R68,
R69): resumption on the dwell, the final descent of HELD shutters that are clear, and the conflict check. -/

namespace Sys2Proof.Machine

/-- A shutter PAUSED for conflict resumes on the step-off dwell (R69). -/
def resumeOnDwell (n : Nat) (s : State) : State :=
  match s.unit n with
  | some sh =>
    match sh.state with
    | .paused .conflict _ _ => if s.restedForDwell then putUnit n { sh with state := .held false } s else s
    | _ => s
  | none => s

/-- A HELD shutter found clear goes to FINAL (R48, R62). -/
def finalIfClear (n : Nat) (s : State) : State :=
  match s.record n, s.unit n with
  | some r, some sh =>
    match sh.state with
    | .held _ => if s.clearFor r then putUnit n (sh.beginFinal r (s.inputs n)) s else s
    | _ => s
  | _, _ => s

/-- A conflict pause handed to the Shutter Controller for shutter n (R51, R68). -/
def conflictPause (n : Nat) (s : State) : State :=
  match s.unit n with
  | some sh => putUnit n sh.conflictPause s
  | none => s

/-- The conflict record as the CONFLICT notice and OPENING_QUERY carry it (R50, R53, R177). -/
def ConflictRec.bytes (c : ConflictRec) : List Byte :=
  u8 c.shutter ++ u8 c.opening ++ u8 c.cabin ++ u16 c.p ++ firstOr c.synced ++ u16 c.speed ++ opt24 c.time

/-- The conflict record of a conflict at shutter n at this moment (R50). -/
def State.conflictRecord (s : State) (n : Nat) : ConflictRec :=
  let j := ((s.record n).bind ShutterRec.opening?).getD 0
  { shutter := n, opening := j, cabin := (s.openingStatus j).occupant.getD 0, p := s.chain.p,
    synced := s.chain.synced, speed := s.chain.speed, time := s.day.clock }

/-- A conflict comes into being with the latch clear (R50, R51): latch, record, halt, notice. -/
def latchConflict (n : Nat) (s : State) : State :=
  let c := s.conflictRecord n
  let s := haltIfRunning .conflict { s with board := { s.board with latch := some c } }
  raise .conflict c.bytes s

/-- The conflict check (R50, R51): shutters at which a conflict comes into being are paused, and with the latch clear
the one taken first latches. What is remembered is where a conflict holds once that is done. -/
def conflictCheck (s : State) : State :=
  let fresh := s.conflicts.filter fun n => !s.board.inConflict.contains n
  let s := if s.board.latch.isNone then
      match takeFirst fresh s with
      | (some n, s) => latchConflict n s
      | (none, s) => s
    else s
  let s := fresh.foldl (fun s n => conflictPause n s) s
  { s with board := { s.board with inConflict := s.conflicts } }

/-- What follows a change of the opening statuses, the rest time, the dwell, the margin or a curtain's reading. -/
def boardReact (s : State) : State :=
  conflictCheck (forShutters (fun _ => true) finalIfClear (forShutters (fun _ => true) resumeOnDwell s))

end Sys2Proof.Machine
end

