-- ==== Sys2Proof/Machine/Announce.lean ====
section
/-! DEFINITION. The Announcement Sequencer (chapter 8): slots, selection, the player, end requests, the fire stages, the
closing slot and the log. -/

namespace Sys2Proof.Machine

/-- A source's code (section 10.8): 0 to 7 for host slots, 8 for slot C, 9 for A and 10 for E. -/
def Source.code : Source → Nat
  | .slot n => n
  | .scriptA => 9
  | .scriptE => 10

/-- A slot by its selection number (R127). -/
def State.slot (s : State) (n : Nat) : Slot := s.announcer.slots.getD n .free

/-- Store a slot. -/
def setSlot (n : Nat) (x : Slot) (s : State) : State :=
  { s with announcer := { s.announcer with slots := s.announcer.slots.set n x } }

/-- Store the player. -/
def setPlayer (p : Player) (s : State) : State := { s with announcer := { s.announcer with player := p } }

/-- The run in hand in CHIME and PHRASE (R132). -/
def Player.run? : Player → Option Run
  | .chime r _ => some r
  | .phrase r _ _ _ => some r
  | _ => none

/-- Change the run in hand. -/
def Player.mapRun (f : Run → Run) : Player → Player
  | .chime r ms => .chime (f r) ms
  | .phrase r i e left => .phrase (f r) i e left
  | p => p

/-- The phrase in hand is the last of its run: it stands last in the list (R133). -/
def Player.inLastPhrase : Player → Bool
  | .phrase r i _ _ => i + 1 = r.script.phrases.length
  | _ => false

/-- What the audio output plays from the flash (R132, R133): the entry the phrase in hand was begun with. -/
def Player.flash? : Player → Option Phrase
  | .phrase _ _ e _ => some e
  | _ => none

/-- A slot is held by its class in ALERT (R130). -/
def State.holds (s : State) (cls : Nat) : Bool := s.fire.state = .alert && s.store.timing.holdThreshold ≤ cls

/-- A slot is PENDING and eligible (R130). -/
def State.eligible (s : State) : Slot → Bool
  | .pending post _ none => !s.holds post.script.cls
  | _ => false

/-! ### The log (section 8.7) -/

/-- Write a log record (R146): added after the newest, with LOG raised, or discarded by a full log, with LOG_OVERFLOW. -/
def writeLog (r : LogRec) (s : State) : State :=
  if s.announcer.log.length < 16 then
    raise .log (u8 s.announcer.log.length ++ u8 r.source.code ++ u8 r.marker ++ u8 r.outcome.ctorIdx)
      { s with announcer := { s.announcer with log := s.announcer.log ++ [r] } }
  else
    raise .logOverflow (u8 r.source.code ++ u8 r.marker ++ u8 r.outcome.ctorIdx)
      { s with announcer := { s.announcer with overflow := countUp s.announcer.overflow } }

/-- The record of a run that has started (R146). -/
def logRun (r : Run) (o : RunOutcome) (s : State) : State :=
  writeLog ⟨r.source, r.script.marker, o, r.number, r.start, s.day.clock, r.played, r.skipped⟩ s

/-- The record of a run never started (R146). -/
def logUnstarted (src : Source) (script : Script) (number : Nat) (o : RunOutcome) (s : State) : State :=
  writeLog ⟨src, script.marker, o, number, none, s.day.clock, 0, 0⟩ s

/-! ### Ending a run -/

/-- Entry to GAP (R135). -/
def enterGap (s : State) : State := setPlayer (.gap s.store.timing.gap) s

/-- A run has come to the end of its last phrase with no end request (R134, R142). -/
def completeRun (r : Run) (s : State) : State :=
  let s := logRun r .completed s
  let s := match r.source with
    | .slot n =>
      match s.slot n with
      | .playing post run =>
        if n < 8 && run < post.repeats then setSlot n (.repeatWait post (run + 1) (post.interval.getD 0 * 1000)) s
        else setSlot n .free s
      | _ => s
    | .scriptA => s
    | .scriptE =>
      if s.fire.state = .evacuate then
        { s with announcer := { s.announcer with timerE := some (s.store.timing.evacRepeat * 1000) } }
      else s
  enterGap s

/-- The slot of a source goes FREE. -/
def freeSlot (src : Source) (s : State) : State :=
  match src with
  | .slot n => setSlot n .free s
  | _ => s

/-- What slot C holds of a closing step: repeats 0 and no repeat interval (R10, R144). -/
def Post.closing (script : Script) : Post := ⟨script, 0, none⟩

/-- A run stops at the end of its chime or phrase by its end request (R134, R137 to R139, R143, R144). `last` says
that the phrase just ended was the last of the run. -/
def stopRun (r : Run) (e : EndRequest) (last : Bool) (s : State) : State :=
  match e with
  | .cancel => enterGap (freeSlot r.source (logRun r (if last then .completedDespiteCancel else .stoppedAfterPhrase) s))
  | .normal => enterGap (freeSlot r.source (logRun r .stoppedAfterPhrase s))
  | .defer =>
    match r.source with
    | .slot n => match s.slot n with
      | .playing post run => enterGap (setSlot n (.pending post run none) s)
      | _ => enterGap s
    | _ => enterGap s
  | .supersede =>
    let s := freeSlot r.source (logRun r .superseded s)
    match s.announcer.waiting with
    | some script =>
      enterGap { setSlot 8 (.pending (Post.closing script) 0 none) s with
        announcer := { (setSlot 8 (.pending (Post.closing script) 0 none) s).announcer with waiting := none } }
    | none => enterGap s

/-! ### Playing -/

/-- Begin the phrases of a list from place `i` on (R133): a missing phrase is skipped at once, a phrase of 1 to 7 bytes
lasts 0 ms and counts as played; the answer is the place of the phrase that is begun and its entry, or none at the end. -/
def beginPhrase (directory : List Phrase) : List Nat → Nat → Run → Run × Option (Nat × Phrase)
  | [], _, r => (r, none)
  | ph :: rest, i, r =>
    let e := directory.getD ph ⟨0, 0⟩
    if e.length = 0 then beginPhrase directory rest (i + 1) { r with skipped := r.skipped + 1 }
    else if e.length / 8 = 0 then beginPhrase directory rest (i + 1) { r with played := r.played + 1 }
    else (r, some (i, e))

/-- Go on with a run at place `i` of its list, or end it (R133, R134). -/
def playFrom (r : Run) (i : Nat) (s : State) : State :=
  match beginPhrase s.store.tables.phrases (r.script.phrases.drop i) i r with
  | (r, some (i, e)) => setPlayer (.phrase r i e (e.length / 8)) s
  | (r, none) => completeRun r s

/-- Start a run (R132): in CHIME when its chime is 1 to 7, and otherwise at its first phrase. -/
def startRun (src : Source) (script : Script) (number : Nat) (s : State) : State :=
  let r : Run := ⟨src, script, number, 0, 0, s.day.clock, none⟩
  if script.chime = 0 then playFrom r 0 s else setPlayer (.chime r 0) s

/-! ### Selection (section 8.2) -/

/-- The eligible slot of lowest class, ties going to the lowest selection number (R131). -/
def bestSlot (s : State) : Nat → List Slot → Option (Nat × Nat)
  | _, [] => none
  | n, x :: rest =>
    match x, bestSlot s (n + 1) rest with
    | .pending post _ none, none => if s.holds post.script.cls then none else some (post.script.cls, n)
    | .pending post _ none, some (c, m) =>
      if !s.holds post.script.cls && post.script.cls ≤ c then some (post.script.cls, n) else some (c, m)
    | _, best => best

/-- Selection (R131): start what is chosen, or none when nothing is. -/
def select (s : State) : Option State :=
  if s.unconfigured then none
  else match s.fire.state, s.announcer.dueE, s.store.tables.scriptE, s.announcer.dueA, s.store.tables.scriptA with
    | .evacuate, true, some e, _, _ =>
      some (startRun .scriptE e s.announcer.runsE
        { s with announcer := { s.announcer with dueE := false, runsE := min (s.announcer.runsE + 1) 9 } })
    | .alert, _, _, true, some a =>
      some (startRun .scriptA a s.announcer.runsA
        { s with announcer := { s.announcer with dueA := false, runsA := min (s.announcer.runsA + 1) 9 } })
    | _, _, _, _, _ =>
      if s.day.state = .shut then none
      else match bestSlot s 0 s.announcer.slots with
        | none => none
        | some (_, n) => match s.slot n with
          | .pending post run _ => some (startRun (.slot n) post.script run (setSlot n (.playing post run) s))
          | _ => none

/-- The player passes through a gap of 0 to IDLE at once (R135) and makes its selection whenever it is IDLE (R131).
Each pass starts a run; a run that ends at once (R133) leaves its slot, so that the passes come to an end. -/
def announceLoop : Nat → State → State
  | 0, s => s
  | k + 1, s =>
    match s.announcer.player with
    | .gap 0 => announceLoop k (setPlayer .idle s)
    | .idle => match select s with
      | none => s
      | some s' => announceLoop k s'
    | _ => s

/-- What the sequencer does by itself after a change. -/
def announceSettle (s : State) : State := announceLoop 32 s

/-! ### Starts, cancels and posts -/

/-- A slot waiting for a store time takes the clock's showing of it (R129). -/
def Slot.clockShows (t : Nat) : Slot → Slot
  | .pending post run (some u) => if u = t then .pending post run none else .pending post run (some u)
  | x => x

/-- The starts that the clock's value brings (R129). -/
def startsArrive (t : Nat) (s : State) : State :=
  { s with announcer := { s.announcer with slots := s.announcer.slots.map (Slot.clockShows t) } }

/-- A request reaching a run, dealt with by the request it already has (R138). -/
def EndRequest.join : Option EndRequest → EndRequest → EndRequest
  | some .cancel, .defer => .cancel
  | some .supersede, .defer => .supersede
  | some .supersede, .cancel => .supersede
  | _, e => e

/-- Give the run in hand an end request (R138). -/
def requestEnd (e : EndRequest) (s : State) : State :=
  setPlayer (s.announcer.player.mapRun fun r => { r with endRequest := some (EndRequest.join r.endRequest e) }) s

/-- How CANCEL_ANNOUNCEMENT answers an OK (R137, R138). The code of SUPERSEDING, which R137's table does not list, is the
model's choice: 3, after the three that it lists (log entry 9). -/
inductive CancelReply where
  | cancelled | stopping | completing | superseding
deriving DecidableEq, Repr

/-- CANCEL_ANNOUNCEMENT on a slot as it stands (R137, R138). -/
def cancelSlot (n : Nat) (s : State) : Option CancelReply × State :=
  match s.slot n with
  | .free => (none, s)
  | .pending post run _ => (some .cancelled, logUnstarted (.slot n) post.script run .cancelled (setSlot n .free s))
  | .repeatWait post run _ =>
    (some .cancelled, logUnstarted (.slot n) post.script run .cancelled (setSlot n .free s))
  | .playing _ _ =>
    match s.announcer.player.run?.bind Run.endRequest with
    | some .supersede => (some .superseding, s)
    | _ => (some (if s.announcer.player.inLastPhrase then .completing else .stopping), requestEnd .cancel s)

/-- A closing post (R144); in EVACUATE it is discarded (R141). -/
def closingPost (script : Script) (s : State) : State :=
  if s.fire.state = .evacuate then s
  else match s.slot 8 with
    | .free => setSlot 8 (.pending (Post.closing script) 0 none) s
    | .pending old run _ =>
      setSlot 8 (.pending (Post.closing script) 0 none) (logUnstarted (.slot 8) old.script run .superseded s)
    | .repeatWait old run _ =>
      setSlot 8 (.pending (Post.closing script) 0 none) (logUnstarted (.slot 8) old.script run .superseded s)
    | .playing _ _ =>
      let s := match s.announcer.player.run?.bind Run.endRequest, s.announcer.waiting with
        | some .supersede, some old => logUnstarted (.slot 8) old 0 .superseded s
        | _, _ => s
      requestEnd .supersede { s with announcer := { s.announcer with waiting := some script } }

/-! ### Fire stages (section 8.5) -/

/-- The run in hand is a host slot's or slot C's (R138, R145). -/
def Run.fromSlot (r : Run) : Bool :=
  match r.source with
  | .slot _ => true
  | _ => false

/-- ALERT entry at the sequencer (R139); each change of the fire state sets the run counts to 0 (R140). -/
def announceAlert (s : State) : State :=
  let s := { s with announcer := { s.announcer with
    runsA := 0, runsE := 0, dueA := s.store.tables.scriptA.isSome, dueE := false, timerE := none
    timerA := some (s.store.timing.alertRepeat * 1000) } }
  match s.announcer.player.run? with
  | some r => if r.fromSlot && r.endRequest.isNone then requestEnd .defer s else s
  | none => s

/-- A slot is withdrawn at EVACUATE entry (R141). -/
def withdraw (n : Nat) (s : State) : State :=
  match s.slot n with
  | .pending post run _ => logUnstarted (.slot n) post.script run .withdrawn (setSlot n .free s)
  | .repeatWait post run _ => logUnstarted (.slot n) post.script run .withdrawn (setSlot n .free s)
  | _ => s

/-- The run in hand is cut at EVACUATE entry unless it is E's (R141). -/
def cutRun (s : State) : State :=
  match s.announcer.player with
  | .idle => s
  | .gap _ => setPlayer .idle s
  | .chime r _ =>
    if r.source = .scriptE then s else setPlayer .idle (freeSlot r.source (logRun r .preempted s))
  | .phrase r _ _ _ =>
    if r.source = .scriptE then s else setPlayer .idle (freeSlot r.source (logRun r .preempted s))

/-- The waiting step is discarded and recorded SUPERSEDED at EVACUATE entry (R141). -/
def dropWaiting (s : State) : State :=
  match s.announcer.waiting with
  | none => s
  | some script =>
    logUnstarted (.slot 8) script 0 .superseded { s with announcer := { s.announcer with waiting := none } }

/-- EVACUATE entry at the sequencer, in the order of R141's list. With script E absent nothing is made due, and a script E
written later waits for the next EVACUATE entry or a RESTART: the model's choice (log entry 37). -/
def announceEvacuate (s : State) : State :=
  let s := dropWaiting ((List.range 9).foldl (fun s n => withdraw n s) (cutRun s))
  { s with announcer := { s.announcer with
    runsA := 0, runsE := 0, dueA := false, timerA := none, timerE := none
    dueE := s.store.tables.scriptE.isSome } }

/-- The return to NORMAL at the sequencer (R139, R143). -/
def announceNormal (s : State) : State :=
  let s := { s with announcer := { s.announcer with
    runsA := 0, runsE := 0, dueA := false, dueE := false, timerA := none, timerE := none } }
  setPlayer (s.announcer.player.mapRun fun r =>
    if r.fromSlot then { r with endRequest := if r.endRequest = some .defer then none else r.endRequest }
    else { r with endRequest := some .normal }) s

/-! ### Ends of chimes and phrases -/

/-- The chime of a run ends (R133, R134, R138). -/
def chimeEnd (s : State) : State :=
  match s.announcer.player with
  | .chime r _ =>
    match r.endRequest with
    | some e => stopRun r e false s
    | none => playFrom r 0 s
  | _ => s

/-- The phrase in hand ends (R133, R134, R138). -/
def phraseEnd (s : State) : State :=
  match s.announcer.player with
  | .phrase r i _ _ =>
    let r' := { r with played := r.played + 1 }
    match r.endRequest with
    | some e => stopRun r' e (i + 1 = r.script.phrases.length) s
    | none => playFrom r' (i + 1) s
  | _ => s

/-! ### What other blocks read -/

/-- The speaker groups enabled (R132): those of the run in CHIME and PHRASE, none otherwise. -/
def State.speakerGroups (s : State) : BitVec 16 :=
  match s.announcer.player.run? with
  | some r => r.script.groups
  | none => 0#16

/-- The announcement side of the clearing test (R145, R161): slot C FREE, no host slot PLAYING or PENDING and eligible,
and the player not playing a host or closing run. -/
def State.announcementsClear (s : State) : Bool :=
  s.slot 8 = .free &&
  (s.announcer.slots.take 8).all (fun x => match x with
    | .playing _ _ => false
    | x => !s.eligible x) &&
  (match s.announcer.player.run? with
    | some r => !r.fromSlot
    | none => true)

end Sys2Proof.Machine
end

