-- ==== Sys2Proof/Machine/Queues.lean ====
section
/-! DEFINITION. The Call Queue Unit (chapter 7): arrivals, acknowledgements, escalation, and the annunciators with their
strike patterns and hush. -/

namespace Sys2Proof.Machine

/-! ### The queues in the state -/

/-- A queue by its name (R113). -/
def Calls.get (c : Calls) : QueueName → Queue
  | .counting => c.counting
  | .floor => c.floor

/-- Store a queue by its name. -/
def Calls.set (q : QueueName) (x : Queue) (c : Calls) : Calls :=
  match q with
  | .counting => { c with counting := x }
  | .floor => { c with floor := x }

/-- A queue of the state. -/
def State.queue (s : State) (q : QueueName) : Queue := s.calls.get q

/-- Store a queue of the state. -/
def setQueue (q : QueueName) (x : Queue) (s : State) : State := { s with calls := s.calls.set q x }

/-- Store an annunciator's pattern state. -/
def setPattern (q : QueueName) (p : Pattern) (s : State) : State := setQueue q { s.queue q with pattern := p } s

/-- The other queue, to which an escalation copies (R119). -/
def otherQueue : QueueName → QueueName
  | .counting => .floor
  | .floor => .counting

/-- The slot of the record of index i (R113). -/
def Queue.slotOf (x : Queue) (i : Nat) : Nat := (x.head + i) % 8

/-- A slot's index from the head (R113, R116). -/
def Queue.indexOf (x : Queue) (slot : Nat) : Nat := (slot + 8 - x.head) % 8

/-- The escalation time E of a queue in s (R118). -/
def State.escalationTime (s : State) : QueueName → Nat
  | .counting => s.store.timing.escCounting
  | .floor => s.store.timing.escFloor

/-- The escalation timer as started or restarted at E, in ms: it does not run when E is 0 (R118). -/
def State.timerAtE (s : State) (q : QueueName) : Option Nat :=
  if s.escalationTime q = 0 then none else some (s.escalationTime q * 1000)

/-- The queue is in overwrite mode (R115). -/
def State.overwrites (s : State) : QueueName → Bool
  | .counting => s.store.timing.overwriteCounting
  | .floor => s.store.timing.overwriteFloor

/-- The zone of a queue's annunciator (R3). -/
def State.annunciatorZone (s : State) : QueueName → Nat
  | .counting => s.store.tables.site.counting
  | .floor => s.store.tables.site.floor

/-! ### Annunciators (section 7.4) -/

/-- The strikes of group 1, 2 or 3 of a call code (R120). -/
def strikes (code group : Nat) : Nat :=
  if group = 1 then code / 4 / 8 + 1 else if group = 2 then code / 4 % 8 + 1 else code % 4 + 1

/-- How long a group lasts, in ms (R120). -/
def groupMs (code group : Nat) : Nat := strikes code group * 400

/-- The striker output (R120): in STRIKING on for the first 150 ms of each strike's 400 ms, and off elsewhere. -/
def Queue.striker (x : Queue) : Bool :=
  match x.pattern with
  | .striking code group ms _ => decide (ms < groupMs code group) && decide (ms % 400 < 150)
  | _ => false

/-- The hush condition of R124 without the head's urgent flag: the zone has hush, and its speaker group is in the set of
the run playing (which is empty unless the player is in CHIME or PHRASE). -/
def State.hushed (s : State) (q : QueueName) : Bool :=
  let z := s.zone (s.annunciatorZone q)
  z.hush && s.speakerGroups.getLsbD z.group

/-- The group next due begins (R120): a first group takes its code from the head. With no head nothing is struck. -/
def beginGroup (q : QueueName) (next : NextGroup) (s : State) : State :=
  match (s.queue q).calls.head? with
  | none => setPattern q .silent s
  | some h => setPattern q (.striking (if next.group = 1 then h.code else next.code.getD h.code) next.group 0 false) s

/-- A group falls due (R124): it waits in HUSH_WAIT when it is hushed and the head is not urgent. -/
def groupFallsDue (q : QueueName) (next : NextGroup) (s : State) : State :=
  match (s.queue q).calls.head? with
  | none => setPattern q .silent s
  | some h => if !h.urgent && s.hushed q then setPattern q (.hushWait next) s else beginGroup q next s

/-- 1,000 ms have passed since the last group struck ended, or none has been struck (R122). -/
def Queue.gapPassed (x : Queue) : Bool :=
  match x.sinceGroup with
  | none => true
  | some ms => 1000 ≤ ms

/-- The first group of the head's pattern, due 1,000 ms after the end of the last group struck or at once (R122); an
empty queue's annunciator is SILENT. -/
def newPattern (q : QueueName) (s : State) : State :=
  if (s.queue q).calls.isEmpty then setPattern q .silent s
  else if (s.queue q).gapPassed then groupFallsDue q ⟨none, 1⟩ s
  else setPattern q (.groupGap ⟨none, 1⟩) s

/-- A change of head (R122). -/
def headChange (q : QueueName) (s : State) : State :=
  match (s.queue q).pattern with
  | .silent => newPattern q s
  | .groupGap _ => newPattern q s
  | .patternWait _ => newPattern q s
  | .striking code group ms _ => setPattern q (.striking code group ms true) s
  | .hushWait _ => groupFallsDue q ⟨none, 1⟩ s

/-- The head's urgent flag is set by a merge (R121, R124). -/
def headTurnsUrgent (q : QueueName) (s : State) : State :=
  match (s.queue q).pattern with
  | .patternWait next => if (s.queue q).gapPassed then groupFallsDue q next s else s
  | .hushWait next => beginGroup q next s
  | _ => s

/-- The group being struck ends (R120, R121, R122). -/
def groupEnd (q : QueueName) (s : State) : State :=
  match (s.queue q).pattern with
  | .striking code group _ changed =>
    let s := setQueue q { s.queue q with sinceGroup := some 0 } s
    match (s.queue q).calls.head? with
    | none => setPattern q .silent s
    | some h =>
      if changed then setPattern q (.groupGap ⟨none, 1⟩) s
      else if group < 3 then setPattern q (.groupGap ⟨some code, group + 1⟩) s
      else if h.urgent then setPattern q (.groupGap ⟨some code, 1⟩) s
      else setPattern q (.patternWait ⟨some code, 1⟩) s
  | _ => s

/-- The gap or the wait before the next group has run out, so that at least 1,000 ms have passed (R120, R121). -/
def groupDue (q : QueueName) (s : State) : State :=
  let passed := setQueue q { s.queue q with sinceGroup := (s.queue q).sinceGroup.map (max 1000) } s
  match (s.queue q).pattern with
  | .groupGap next => groupFallsDue q next passed
  | .patternWait next => groupFallsDue q next passed
  | _ => s

/-- A group waiting in HUSH_WAIT begins at the moment it is hushed no more (R124). -/
def releaseIfUnhushed (q : QueueName) (s : State) : State :=
  match (s.queue q).pattern with
  | .hushWait next => groupFallsDue q next s
  | _ => s

/-- Both annunciators test whether hush has ceased. -/
def hushRelease (s : State) : State := releaseIfUnhushed .floor (releaseIfUnhushed .counting s)

/-! ### Arrivals (R114, R115) -/

/-- A record's data as CALL and CALL_URGENT carry it (R114, R177). -/
def callData (q : QueueName) (slot : Nat) (c : Call) : List Byte :=
  u8 q.ctorIdx ++ u8 slot ++ u8 c.code ++ yesNo c.urgent ++ yesNo c.escalated

/-- An arrival merged into the standing record of its code (R114). -/
def Call.merge (arrival : Call) (copy : Bool) (c : Call) : Call :=
  { c with repeats := min (c.repeats + 1) 15, urgent := c.urgent || arrival.urgent, escalated := c.escalated || copy }

/-- Merge an arrival into the record of index i (R114). -/
def mergeCall (q : QueueName) (i : Nat) (old arrival : Call) (copy : Bool) (s : State) : State :=
  let new := arrival.merge copy old
  let x := s.queue q
  let s := setQueue q { x with calls := x.calls.set i new } s
  if new.urgent && !old.urgent then
    let s := raise .callUrgent (callData q (x.slotOf i) new) s
    if i = 0 then headTurnsUrgent q s else s
  else s

/-- A new record in the tail slot (R114). -/
def appendCall (q : QueueName) (arrival : Call) (copy : Bool) (s : State) : State :=
  let new := { arrival with repeats := 0, escalated := copy }
  let x := s.queue q
  let s := setQueue q { x with calls := x.calls ++ [new] } s
  raise (if new.urgent then .callUrgent else .call) (callData q (x.slotOf x.calls.length) new) s

/-- Remove the first k records (R113): the head slot moves on by k. -/
def Queue.removed (k : Nat) (x : Queue) : Queue := { x with head := (x.head + k) % 8, calls := x.calls.drop k }

/-- CALL_LOST (R115, R177): reason 0 DISCARDED, 1 DISPLACED. -/
def raiseLost (q : QueueName) (code reason : Nat) (s : State) : State :=
  raise .callLost (u8 q.ctorIdx ++ u8 code ++ u8 reason) s

/-- A record arriving at a queue (R114, R115); `copy` for an escalation copy. -/
def arriveCall (q : QueueName) (arrival : Call) (copy : Bool) (s : State) : State :=
  let x := s.queue q
  match x.calls.findIdx? (·.code == arrival.code) with
  | some i =>
    match x.calls[i]? with
    | some old => mergeCall q i old arrival copy s
    | none => s
  | none =>
    if x.calls.length < 8 then
      let s' := appendCall q arrival copy s
      if x.calls.isEmpty then headChange q (setQueue q { s'.queue q with timer := s.timerAtE q } s') else s'
    else if s.overwrites q then
      let displaced := (x.calls.head?.map Call.code).getD 0
      let s := raiseLost q displaced 1 (setQueue q { x.removed 1 with displaced := countUp x.displaced } s)
      headChange q (appendCall q arrival copy s)
    else raiseLost q arrival.code 0 (setQueue q { x with lost := countUp x.lost } s)

/-! ### Acknowledgement and escalation -/

/-- Remove k records from the head by an acknowledgement (R116, R118): the timer restarts at E, or stops preset. -/
def acknowledge (q : QueueName) (k : Nat) (s : State) : State :=
  let x := (s.queue q).removed k
  headChange q (setQueue q { x with timer := if x.calls.isEmpty then none else s.timerAtE q } s)

/-- A local acknowledgement (R117). -/
def localAcknowledge (q : QueueName) (s : State) : State :=
  let x := s.queue q
  if s.unconfigured || x.calls.isEmpty then s
  else acknowledge q 1 (setQueue q { x with localAcks := countUp x.localAcks } s)

/-- A running escalation timer runs out (R119). -/
def escalate (q : QueueName) (s : State) : State :=
  match (s.queue q).timer, (s.queue q).calls.head? with
  | some _, some h =>
    let s := arriveCall (otherQueue q) h true s
    setQueue q { s.queue q with timer := s.timerAtE q } s
  | _, _ => s

end Sys2Proof.Machine
end

