-- ==== Sys2Proof/Machine/StoreDay.lean ====
section
/-! DEFINITION. The Store Sequencer (chapter 9): the clock, the close window, the moves of the store state, and what the
part does by itself once a command has made its change. -/

namespace Sys2Proof.Machine

/-! ### Changes of the store state -/

/-- A change of the store state (R155): the record is written and STORE_STATE raised. -/
def changeStore (new : StoreState) (cause : StoreCause) (s : State) : State :=
  raise .storeState
    (u8 new.ctorIdx ++ u8 s.day.state.ctorIdx ++ u8 cause.ctorIdx ++ opt24 s.day.clock ++ yesNo s.day.forced)
    { s with day := { s.day with state := new, last := ⟨some s.day.state, cause, s.day.clock⟩ } }

/-- Clear every wake flag (R167, R169). -/
def clearWakeFlags (s : State) : State :=
  { s with day := { s.day with wakeOpenNow := false, wakeTime := false, wakeKey := false } }

/-- Entry to CLEARING (R160). Leaving CLOSING discards the closing progress (R158), leaving OPENING its timer (R170). -/
def enterClearing (cause : StoreCause) (s : State) : State :=
  let limit := s.store.timing.clearingLimit * 60000
  clearOutOrder (changeStore .clearing cause { s with day := { s.day with
    forced := false, clearingLeft := some limit, openingLeft := none, posted := [] } })

/-- Entry to SHUTTING (R161, R162): the night-close shutters are lowered and a chain in a RUN state is stopped. -/
def enterShutting (cause : StoreCause) (forced : Bool) (s : State) : State :=
  stopChain (nightCloseOrder (changeStore .shutting cause { s with day := { s.day with
    forced := s.day.forced || forced, clearingLeft := none } }))

/-- Entry to OPENING (R170), where every wake flag is cleared (R167). -/
def enterOpening (cause : StoreCause) (s : State) : State :=
  let limit := s.store.timing.openingLimit * 60000
  morningRaise (changeStore .opening cause (clearWakeFlags { s with day := { s.day with openingLeft := some limit } }))

/-! ### The closing plan (section 9.5) -/

/-- The due time of a step with this offset before closing time K (R157). -/
def dueTime (closing offset : Nat) : Nat := (closing + Config.day - offset * 60) % Config.day

/-- How far one store time lies after another, round the day. -/
def dayAfter (x start : Nat) : Nat := (x + Config.day - start) % Config.day

/-- The steps present. -/
def State.steps (s : State) : List ClosingStep := s.store.tables.plan.filterMap id

/-- D0: the due time of the present step with the largest offset, or K itself (R157). -/
def State.windowStart (s : State) (closing : Nat) : Nat :=
  dueTime closing ((s.steps.map ClosingStep.offset).foldl max 0)

/-- A clock value lies in the close window (R157). -/
def State.inCloseWindow (s : State) (closing x : Nat) : Bool :=
  dayAfter x (s.windowStart closing) ≤ dayAfter closing (s.windowStart closing)

/-- The offsets of the steps whose due time lies in the window from D0 through x, first due first (R157). -/
def State.dueOffsets (s : State) (closing x : Nat) : List Nat :=
  let d := s.windowStart closing
  ((s.steps.filter fun st => dayAfter (dueTime closing st.offset) d ≤ dayAfter x d).map
    ClosingStep.offset).insertionSort (fun a b => b ≤ a)

/-- Give the step of an offset, if present, to slot C (R144, R157 to R159). -/
def postStep (offset : Nat) (s : State) : State :=
  match s.steps.find? (·.offset == offset) with
  | none => s
  | some st => closingPost st.script s

/-- Entry to CLOSING at clock x with closing time K (R157). -/
def enterClosing (closing x : Nat) (s : State) : State :=
  let offsets := s.dueOffsets closing x
  let s := changeStore .closing .schedule { s with day := { s.day with posted := offsets } }
  let s := match offsets.getLast? with
    | none => s
    | some o => postStep o s
  if x = closing then enterClearing .schedule s else s

/-- The test of the close window (R157), made in TRADING only. -/
def closeWindowTest (s : State) : State :=
  match s.day.state, s.day.clock, s.day.schedule.closing with
  | .trading, some x, some k => if s.day.schedule.planOn && s.inCloseWindow k x then enterClosing k x s else s
  | _, _, _ => s

/-- Entry to TRADING (R170). -/
def enterTrading (cause : StoreCause) (s : State) : State :=
  closeWindowTest (changeStore .trading cause { s with day := { s.day with openingLeft := none } })

/-- In CLOSING, the clock has reached x (R158): the step due is posted and marked, and at K the store clears. -/
def closingReached (x : Nat) (s : State) : State :=
  match s.day.state, s.day.schedule.closing with
  | .closing, some k =>
    let due := (s.steps.map ClosingStep.offset).filter fun o => dueTime k o = x && !s.day.posted.contains o
    let s := due.foldl (fun s o => postStep o { s with day := { s.day with posted := s.day.posted ++ [o] } }) s
    if x = k then enterClearing .schedule s else s
  | _, _ => s

/-! ### Waking (section 9.8) -/

/-- A wake source latches its flag in these store states only (R164). -/
def Day.latches (d : Day) : Bool := d.state = .shutting || d.state = .shut || d.state = .waking

/-- Some wake flag is latched with its source enabled (R164, R166). -/
def Day.wakeEnabled (d : Day) : Bool :=
  d.wakeOpenNow || (d.wakeTime && d.schedule.wakeOn) || (d.wakeKey && d.schedule.keyEnable)

/-- The opening time is reached (R164). -/
def openingReached (x : Nat) (s : State) : State :=
  if s.day.latches && s.day.schedule.opening = some x then { s with day := { s.day with wakeTime := true } } else s

/-- The store acts on its flags in WAKING (R167). -/
def wakingStep (s : State) : Option State :=
  if s.day.wakeOpenNow then some (enterOpening .openNow s)
  else if s.day.wakeTime && s.day.schedule.wakeOn then some (enterOpening .schedule s)
  else if s.day.wakeKey && s.day.schedule.keyEnable then
    if !s.day.key then some (clearWakeFlags (changeStore .shut .keyReleased s))
    else if 2000 ≤ s.day.keyHold then some (enterOpening .key s)
    else none
  else some (clearWakeFlags (changeStore .shut .wakeWithdrawn s))

/-! ### The clock (section 9.1) -/

/-- The clock comes to show x, by a count or by SET_TIME: every test that depends on it (R129, R152, R153, R157, R158,
R164). They are made in the order of the slots' starts, the opening time, the close window and the closing steps: the model's
choice (log entry 44). -/
def clockShows (x : Nat) (s : State) : State :=
  closingReached x (closeWindowTest (openingReached x
    (startsArrive x { s with day := { s.day with clock := some x } })))

/-- The store clock counts one second (R152); it stands still while unset and in UNCONFIGURED. -/
def clockTick (s : State) : State :=
  match s.day.clock with
  | some x => if s.unconfigured then s else clockShows ((x + 1) % Config.day) s
  | none => s

/-! ### What the store finds -/

/-- The building is clear (R161). -/
def State.buildingClear (s : State) : Bool :=
  (s.chain.state.phase = .stopped || s.chain.state.phase = .halted) && s.announcementsClear &&
  s.calls.counting.calls.isEmpty && s.calls.floor.calls.isEmpty

/-- Every night-close shutter is CLOSED or in FAULT (R162). -/
def State.nightDown (s : State) : Bool := (List.range 32).all fun n => !s.nightClose n || downOrFault (s.unit n)

/-- Every night-close shutter is OPEN or in FAULT (R170). -/
def State.nightUp (s : State) : Bool := (List.range 32).all fun n => !s.nightClose n || upOrFault (s.unit n)

/-- The move the store makes by itself from the state it finds, if any (R161, R162, R166, R167, R170). -/
def dayStep (s : State) : Option State :=
  match s.day.state with
  | .clearing => if s.buildingClear then some (enterShutting .cleared false s) else none
  | .shutting => if s.nightDown && !s.chain.moving then some (changeStore .shut .shutDone s) else none
  | .shut => if s.fire.state != .evacuate && s.day.wakeEnabled then some (changeStore .waking .wake s) else none
  | .waking => wakingStep s
  | .opening => if s.nightUp then some (enterTrading .opened s) else none
  | .unconfigured => none
  | .standby => none
  | .trading => none
  | .closing => none

/-- EVACUATE entry at the Store Sequencer (R171). -/
def dayEvacuate (s : State) : State :=
  match s.day.state with
  | .trading => enterClearing .fire s
  | .closing => enterClearing .fire s
  | .opening => enterClearing .fire s
  | .waking => changeStore .shut .fire s
  | _ => s

/-! ### Settling -/

/-- What the other blocks do by themselves once something has changed: the chain, the Boarding Monitor with the waiting
shutters, the raise arbiter, the announcement player and the hushed annunciators. -/
def motion (s : State) : State := hushRelease (announceSettle (arbiter (boardReact (chainSettle s))))

/-- The moves of the store, each followed by what it sets off. From no state can more than eight follow one another,
since a store back in SHUT has its wake flags clear. -/
def dayLoop : Nat → State → State
  | 0, s => s
  | k + 1, s =>
    match dayStep s with
    | none => s
    | some s' => dayLoop k (motion s')

/-- All that follows, at the same moment, a change that a command has made. -/
def settle (s : State) : State := dayLoop 12 (motion s)

end Sys2Proof.Machine
end

