-- ==== Sys2Proof/Machine/FireStage.lean ====
section
/-! DEFINITION. The Fire Stage Unit (chapter 5): the supervised lines, the entries to ALERT and EVACUATE, the group
schedule, the start-up read and the return to NORMAL. -/

namespace Sys2Proof.Machine

/-- A line's taken reading; none before the first of a start-up read (R81, R89). -/
def Fire.reading (f : Fire) : Line → Option Reading
  | .alertIn => f.alertIn
  | .evacIn => f.evacIn

/-- Store a line's taken reading. -/
def Fire.take (line : Line) (r : Reading) (f : Fire) : Fire :=
  match line with
  | .alertIn => { f with alertIn := some r }
  | .evacIn => { f with evacIn := some r }

/-- Store a line's last-fault record (R82). -/
def Fire.faulted (line : Line) (record : LineFault) (f : Fire) : Fire :=
  match line with
  | .alertIn => { f with alertFault := some record }
  | .evacIn => { f with evacFault := some record }

/-- Store the Fire Stage Unit. -/
def setFire (f : Fire) (s : State) : State := { s with fire := f }

/-- A change of the fire state (R83): the entry record is written and FIRE_STAGE raised. -/
def changeFire (new : FireState) (cause : FireCause) (s : State) : State :=
  raise .fireStage (u8 new.ctorIdx ++ u8 cause.ctorIdx ++ opt24 s.day.clock)
    (setFire { s.fire with state := new, entry := some ⟨cause, s.day.clock⟩ } s)

/-- ALERT entry (R84, R86). -/
def enterAlert (cause : FireCause) (s : State) : State :=
  let t := s.store.timing.alertToEvac
  let s := changeFire .alert cause s
  announceAlert (alertOrder (setFire { s.fire with escalation := if t = 0 then none else some (t * 1000) } s))

/-- The groups ordered at the moment of EVACUATE entry: group 0, and with a group delay of 0 all four (R87). -/
def firstGroups (delay : Nat) (s : State) : State :=
  if delay = 0 then groupOrder 3 (groupOrder 2 (groupOrder 1 (groupOrder 0 s))) else groupOrder 0 s

/-- EVACUATE entry (R85, R87). -/
def enterEvacuate (cause : FireCause) (s : State) : State :=
  let d := s.store.timing.groupDelay
  let s := changeFire .evacuate cause s
  let s := setFire { s.fire with escalation := none, schedule := some ⟨d, if d = 0 then 4 else 1, d * 1000⟩ } s
  dayEvacuate (announceEvacuate (clearOutOrder (firstGroups d (forgetGroupOrders (stopRaises s)))))

/-- The return to NORMAL and what it hands to the other blocks (R89, R90). -/
def toNormal (cause : FireCause) (s : State) : State :=
  let s := changeFire .normal cause s
  announceNormal (shuttersToNormal (setFire { s.fire with origin := none, escalation := none, schedule := none } s))

/-- The fire state is set from the lines (R89, R91), and the entry record takes cause START_UP; NORMAL found in NORMAL
changes nothing else, and leaves the record absent where no change has come since the power-on (R93, log entry 18). -/
def setFromLines (s : State) : State :=
  if s.fire.evacIn = some .active then enterEvacuate .startUp s
  else if s.fire.alertIn = some .active then enterAlert .startUp s
  else if s.fire.state = .normal then
    setFire { s.fire with entry := s.fire.entry.map fun _ => ⟨.startUp, s.day.clock⟩ } s
  else toNormal .startUp s

/-- The start-up read ends once both lines have a taken reading (R89); in UNCONFIGURED no fire state follows (R91). -/
def endStartUp (s : State) : State :=
  if s.fire.alertIn.isSome && s.fire.evacIn.isSome then
    let s := setFire { s.fire with startUp := false } s
    if s.unconfigured then s else setFromLines s
  else s

/-- A change into a fault writes the line's last-fault record and raises LINE_FAULT (R82). -/
def recordFault (line : Line) (r : Reading) (s : State) : State :=
  match r with
  | .openFault | .shortFault =>
    let record : LineFault := ⟨r = .shortFault, s.day.clock⟩
    raise .lineFault (u8 line.ctorIdx ++ u8 (if record.short then 1 else 0) ++ opt24 record.time)
      (setFire (s.fire.faulted line record) s)
  | .normal | .active => s

/-- EVAC_IN read ACTIVE in UNCONFIGURED starts the fail-safe release (R16). -/
def startFailSafe (line : Line) (r : Reading) (s : State) : State :=
  if s.unconfigured && line = .evacIn && r = .active then { s with shutters := { s.shutters with failSafe := true } }
  else s

/-- A line becomes ACTIVE outside a start-up read and outside UNCONFIGURED (R84, R85). -/
def lineActive (line : Line) (s : State) : State :=
  match line with
  | .alertIn => if s.fire.state = .normal then enterAlert .alertLine s else s
  | .evacIn => if s.fire.state = .evacuate then s else enterEvacuate .evacLine s

/-- A line's taken reading changes (R81, R82, R84, R85, R89). -/
def readingChange (line : Line) (r : Reading) (s : State) : State :=
  if s.fire.reading line = some r then s
  else
    let s := startFailSafe line r (recordFault line r (setFire (s.fire.take line r) s))
    if s.fire.startUp then endStartUp s
    else if !s.unconfigured && r = .active then lineActive line s
    else s

/-- A line that has not settled 2,000 ms after the reset is taken as OPEN_FAULT (R89). -/
def startupTimeout (line : Line) (s : State) : State :=
  if s.fire.startUp && (s.fire.reading line).isNone then readingChange line .openFault s else s

/-- The escalation timer runs out (R85, R86). -/
def fireEscalation (s : State) : State :=
  if s.fire.state = .alert && s.fire.escalation.isSome then enterEvacuate .escalation s else s

/-- The next group of the schedule falls due (R87). -/
def groupDueOrder (s : State) : State :=
  match s.fire.schedule with
  | some sch =>
    if sch.next < 4 then
      groupOrder sch.next (setFire { s.fire with schedule := some { sch with
        next := sch.next + 1, left := if sch.next + 1 < 4 then sch.delay * 1000 else 0 } } s)
    else s
  | none => s

end Sys2Proof.Machine
end

