-- ==== Sys2Proof/Machine/Intake.lean ====
section
/-! DEFINITION. The Call Intake (chapter 6): polls and their lamps, outcomes, station presence, loop health, the filter
list and what a press does. -/

namespace Sys2Proof.Machine

/-! ### Polling (R94, R95) -/

/-- The presence set (R3). -/
def State.presence (s : State) : BitVec 64 := s.store.tables.site.presence

/-- The lowest station of a set from a number on. -/
def lowestFrom (set : BitVec 64) (n : Nat) : Option Nat := (List.range 64).find? fun k => n ≤ k && set.getLsbD k

/-- The station polled after one, or the lowest when none lies above it (R94). -/
def stationAfter (set : BitVec 64) (n : Nat) : Option Nat :=
  match lowestFrom set (n + 1) with
  | some k => some k
  | none => lowestFrom set 0

/-- A record of this call code stands in a queue. -/
def Queue.holdsCode (code : Nat) (x : Queue) : Bool := x.calls.any (·.code == code)

/-- The lamp nibble of a station as the queues stand (R95). -/
def State.lampNibble (s : State) (station : Nat) : BitVec 4 :=
  let lit := fun b => s.calls.counting.holdsCode (4 * station + b) || s.calls.floor.holdsCode (4 * station + b)
  BitVec.ofNat 4 ((if lit 0 then 1 else 0) + (if lit 1 then 2 else 0) + (if lit 2 then 4 else 0) + (if lit 3 then 8 else 0))

/-- The three bytes of a poll as sent on the call loop (R96, section 10.8): the station with its top bit set, the lamp
nibble, and the check byte that brings the sum to 0 modulo 256. -/
def Poll.bytes (p : Poll) : List Byte :=
  let station := BitVec.ofNat 8 (0x80 + p.station)
  let lamps := p.lamps.setWidth 8
  [station, lamps, 0#8 - (station + lamps)]

/-- Store the Call Intake. -/
def setIntake (i : Intake) (s : State) : State := { s with intake := i }

/-- Begin the poll of a station, or none (R94, R95). -/
def beginPoll (station : Option Nat) (s : State) : State :=
  setIntake { s.intake with
    poll := station.map fun n => ⟨n, s.lampNibble n⟩
    fromLowest := false } s

/-- Polling begins with the lowest station of the presence set, if a poll may be sent (R94, R112). -/
def firstPoll (s : State) : State :=
  if s.unconfigured || s.intake.quietWait || s.intake.poll.isSome then s
  else beginPoll (lowestFrom s.presence 0) s

/-- The next poll, after one of `station` (R94). -/
def nextPoll (station : Nat) (s : State) : State :=
  beginPoll (if s.intake.fromLowest then lowestFrom s.presence 0 else stationAfter s.presence station) s

/-- The presence set has been written (R94): an emptied set begins again at its lowest station. -/
def presenceWritten (s : State) : State :=
  if s.intake.poll.isSome then
    setIntake { s.intake with fromLowest := s.intake.fromLowest || s.presence = 0#64 } s
  else firstPoll s

/-! ### Loop health (R97 to R102) -/

/-- The loop state (R99, R100). -/
def Intake.loopState (i : Intake) : LoopState :=
  if i.recovery.isSome then .loopOff else if 96 ≤ i.counter then .degraded else .active

/-- The outcome of a poll (R96). -/
inductive Outcome where
  | good (pressed held : BitVec 4)
  | corrupt
  | missing
deriving DecidableEq, Repr

/-- The outcome of the bytes received before the line fell quiet (R96). -/
def outcomeOf (station : Nat) (bytes : List Byte) (stopBits : Bool) : Outcome :=
  match bytes, stopBits with
  | [a, b, c], true =>
    if a.toNat = station && a + b + c = 0#8 then .good (b.extractLsb' 4 4) (b.extractLsb' 0 4) else .corrupt
  | _, _ => .corrupt

/-- A station entry after an outcome (R98). -/
def Station.after (o : Outcome) (e : Station) : Station :=
  match o with
  | .good _ held => { e with missed := 0, present := true, lastReply := some held }
  | .corrupt => { e with missed := 0, corrupt := countUp e.corrupt }
  | .missing =>
    { e with missed := min (e.missed + 1) 3, present := e.present && e.missed + 1 < 3, missing := countUp e.missing }

/-- The error counter and the recovery count after an outcome (R99, R100, R101). -/
def Intake.counted (o : Outcome) (i : Intake) : Intake :=
  match o, i.recovery with
  | .good .., none => { i with counter := i.counter - 1 }
  | .good .., some r =>
    if r + 1 = 128 then { i with counter := 0, recovery := none } else { i with recovery := some (r + 1) }
  | .corrupt, none =>
    if i.counter + 8 ≤ 255 then { i with counter := i.counter + 8 } else { i with counter := 255, recovery := some 0 }
  | .corrupt, some _ => { i with recovery := some 0 }
  | .missing, _ => i

/-- A station's entry (R97). -/
def Intake.station (i : Intake) (n : Nat) : Station := i.stations.getD n Station.start

/-- The outcome of a poll of a station at the station table and at the counter, with LOOP_STATE (R98 to R102). -/
def outcomeTaken (station : Nat) (o : Outcome) (s : State) : State :=
  let e := s.intake.station station
  let e' := e.after o
  let was := s.intake.loopState
  let i := Intake.counted o { s.intake with stations := s.intake.stations.set station e' }
  let s := setIntake i s
  let changed := e'.present != e.present
  if changed || decide (i.loopState ≠ was) then
    raise .loopState (u8 i.loopState.ctorIdx ++ u8 i.counter ++
      (if changed then u8 station ++ u8 (if e'.present then 0 else 1) else [0xFF#8, 0xFF#8])) s
  else s

/-! ### Presses (R103 to R109) -/

/-- A call code matches a filter entry (R7, R104). -/
def FilterEntry.matches (code : Nat) (f : FilterEntry) : Bool :=
  match f.kind with
  | .range => f.first ≤ code && code ≤ f.second
  | .pair => code = f.first || code = f.second
  | .mask => code &&& f.second = f.first &&& f.second

/-- An entry is tested in a store state (R104). -/
def FilterEntry.tested (shut : Bool) (f : FilterEntry) : Bool := f.enabled && (!shut || f.night)

/-- The filter index and the decided action of a press (R104, R105). -/
def State.decidePress (s : State) (code : Nat) : Option Nat × Action :=
  let shut : Bool := s.day.state = .shut
  match s.store.tables.filters.findIdx? (fun f => f.tested shut && f.matches code) with
  | some i => (some i, ((s.store.tables.filters[i]?).map FilterEntry.action).getD .reject)
  | none => (none, if shut then .reject else if s.store.timing.unmatchedToFloor then .toFloor else .reject)

/-- The action taken (R106): in EVACUATE an ordinary call is turned away. -/
def State.taken (s : State) (decided : Action) : Action :=
  match decided with
  | .toCounting => if s.fire.state = .evacuate then .reject else .toCounting
  | .toFloor => if s.fire.state = .evacuate then .reject else .toFloor
  | a => a

/-- The queue of an action taken, none for REJECT (R107). -/
def Action.queue? : Action → Option QueueName
  | .toCounting => some .counting
  | .urgentCounting => some .counting
  | .chainStop => some .counting
  | .toFloor => some .floor
  | .urgentFloor => some .floor
  | .reject => none

/-- The urgent flag of the record an action makes (R107). -/
def Action.urgent : Action → Bool
  | .urgentCounting => true
  | .urgentFloor => true
  | .chainStop => true
  | .toCounting => false
  | .toFloor => false
  | .reject => false

/-- The last-press record and the press counts (R109). -/
def countPress (station button : Nat) (filter : Option Nat) (decided taken : Action) (s : State) : State :=
  let record : Press := ⟨station, button, 4 * station + button, filter, decided, taken, s.day.clock⟩
  let rejected : Bool := taken = .reject
  setIntake { s.intake with
    lastPress := some record
    accepted := if rejected then s.intake.accepted else countUp s.intake.accepted
    rejected := if rejected then countUp s.intake.rejected else s.intake.rejected } s

/-- A press is tested against the filter list and acted on in full (R103 to R109), with all that follows from it. -/
def press (station button : Nat) (s : State) : State :=
  let code := 4 * station + button
  let (filter, decided) := s.decidePress code
  let taken := s.taken decided
  let s := countPress station button filter decided taken s
  let s := match taken.queue? with
    | some q => arriveCall q ⟨code, filter, taken.urgent, false, 0, s.day.clock⟩ false s
    | none => s
  settle (if taken = .chainStop then stopPush code s else s)

/-- The presses of a good reply: tested in ascending button order outside LOOP_OFF, and discarded in it (R100, R103). -/
def takePresses (loopOff : Bool) (station : Nat) (pressed : BitVec 4) (s : State) : State :=
  let set := (List.range 4).filter pressed.getLsbD
  if loopOff then
    setIntake { s.intake with discarded := set.foldl (fun n _ => countUp n) s.intake.discarded } s
  else set.foldl (fun s b => press station b s) s

/-- A poll ends with an outcome, and the next begins at the same moment (R96). The presses of its reply are taken before the
next poll is sent, whose lamps then show them: the model's choice (log entry 42). -/
def pollEnds (station : Nat) (o : Outcome) (s : State) : State :=
  let loopOff := s.intake.recovery.isSome
  let s := outcomeTaken station o s
  let s := match o with
    | .good pressed _ => takePresses loopOff station pressed s
    | .corrupt => s
    | .missing => s
  nextPoll station s

/-! ### The chain-reset test (R110) -/

/-- The button of a call code counts as held (R110). -/
def State.buttonHeld (s : State) (code : Nat) : Bool :=
  let e := s.intake.station (code / 4)
  !e.present || match e.lastReply with
    | none => true
    | some held => held.getLsbD (code % 4)

end Sys2Proof.Machine
end

