-- ==== Sys2Proof/Machine/Replies.lean ====
section
/-! DEFINITION. The data of every reply, as bytes in the order its rule lists the items, with the encodings of section
10.8 (log entry 9 gathers the encodings the manual leaves to be read from it). -/

namespace Sys2Proof.Machine

/-- A yes-or-no item that is present only sometimes: all ones when absent. -/
def optYesNo (b : Option Bool) : List Byte := opt8 (b.map fun b => if b then 1 else 0)

/-- A choice of two, present only sometimes: 0 for the first, 1 for the second, all ones when absent. -/
def optFirst (first : Option Bool) : List Byte := opt8 (first.map fun b => if b then 0 else 1)

/-! ### Commissioning records (chapter 1) -/

def Zone.bytes (z : Zone) : List Byte := u8 z.type.ctorIdx ++ u8 z.group ++ yesNo z.nightClose ++ yesNo z.hush

def Site.bytes (x : Site) : List Byte := bytes64 x.presence ++ u8 x.counting ++ u8 x.floor

/-- A shutter record, or its absence: zone, kind, opening, T1, T, raise limit, group (R4). -/
def shutterBytes : Option ShutterRec → List Byte
  | none => [0xFF#8, 0xFF#8, 0xFF#8] ++ u16 0xFFFF ++ u16 0xFFFF ++ [0xFF#8, 0xFF#8]
  | some r =>
    u8 r.zone ++ u8 (if r.opening?.isSome then 1 else 0) ++ opt8 r.opening? ++ u16 r.dropTime ++
      (if r.opening?.isSome then u16 r.finalTime else u16 0xFFFF) ++ u8 r.raiseLimit ++ u8 r.group

/-- The chain geometry, or its absence with an empty list of offsets (R5). -/
def geometryBytes : Option Geometry → List Byte
  | none => u16 0xFFFF ++ u8 0 ++ u16 0xFFFF ++ [0xFF#8] ++ u16 0xFFFF ++ u16 0xFFFF
  | some g => u16 g.length ++ u8 g.offsets.length ++ g.offsets.flatMap u16 ++ u16 g.halfWidth ++ u8 g.tolerance ++
      u16 g.park ++ u16 g.stopping

/-- A landing entry: present, up and down positions (R6). -/
def landingBytes : Option Landing → List Byte
  | none => yesNo false ++ u16 0xFFFF ++ u16 0xFFFF
  | some l => yesNo true ++ u16 l.up ++ u16 l.dn

/-- READ_CHAIN (R1): the geometry, marked absent as an absent record is, and all eight landing entries. -/
def chainRecordBytes (t : Tables) : List Byte := geometryBytes t.geometry ++ t.landings.flatMap landingBytes

def FilterEntry.bytes (f : FilterEntry) : List Byte :=
  yesNo f.enabled ++ u8 f.kind.ctorIdx ++ u8 f.first ++ u8 f.second ++ u8 f.action.ctorIdx ++ yesNo f.night

def Phrase.bytes (p : Phrase) : List Byte := u24 p.start ++ u24 p.length

/-- A script as carried (section 10.8). -/
def Script.bytes (x : Script) : List Byte :=
  u8 x.chime ++ u8 x.cls ++ u8 x.marker ++ bytes16 x.groups ++ u8 x.phrases.length ++ x.phrases.flatMap u8

/-- A script's place with no script in it. -/
def noScript : List Byte := [0xFF#8, 0xFF#8, 0xFF#8] ++ u16 0 ++ u8 0

/-- A closing step: offset, script, repeats 0 (R10), or its absence. -/
def stepBytes : Option ClosingStep → List Byte
  | none => [0xFF#8] ++ noScript ++ [0xFF#8]
  | some st => u8 st.offset ++ st.script.bytes ++ u8 0

/-- The timing set in R11's order; the default action with its code of R7, TO_FLOOR 1 and REJECT 4. -/
def Timing.bytes (t : Timing) : List Byte :=
  u16 t.margin ++ u8 t.dwell ++ u16 t.gap ++ u8 t.groupDelay ++ u16 t.escCounting ++ u16 t.escFloor ++
    u8 t.clearingLimit ++ u8 t.openingLimit ++ u16 t.alertToEvac ++ u16 t.alertRepeat ++ u8 t.evacRepeat ++
    u8 t.holdThreshold ++ u8 (if t.unmatchedToFloor then 1 else 4) ++ yesNo t.overwriteCounting ++
    yesNo t.overwriteFloor

/-! ### Chain and openings -/

/-- The halt record in HALTED, or its absence (R39). -/
def ChainState.haltBytes : ChainState → List Byte
  | .halted h => h.bytes
  | _ => [0xFF#8, 0xFF#8, 0xFF#8] ++ u16 0xFFFF ++ [0xFF#8] ++ opt24 none

def ChainState.syncCount? : ChainState → Option Nat
  | .syncRun n => some n
  | _ => none

def ChainState.clearCount? : ChainState → Option Nat
  | .clearOut n => some n
  | _ => none

def ChainState.intent? : ChainState → Option Nat
  | .stopping i => some i.ctorIdx
  | _ => none

/-- CHAIN_STATUS (R39). The sync-run count, which R28 lets reach 74,999, takes three bytes (log entry 9). -/
def chainStatus (s : State) : List Byte :=
  let c := s.chain
  u8 c.state.phase.ctorIdx ++ firstOr c.state.runs ++ firstOr c.state.slow ++ firstOr c.driveOk ++
    firstOr s.store.tables.geometry.isSome ++ u16 c.p ++ firstOr c.synced ++ slip16 c.lastSlip ++ signed16 c.nPrev ++
    signed16 c.nLast ++ u16 c.speed ++ yesNo c.moving ++ u16 c.restMs ++ yesNo c.parked ++
    opt24 c.state.syncCount? ++ opt16 c.state.clearCount? ++ opt8 c.state.intent? ++ c.state.haltBytes ++
    setBytes 32 c.stopPushes

/-- The ground of a clearance (R53): count 0, dwell 1, both 2, none 3. -/
def groundCode (count dwell : Bool) : Nat :=
  if count && dwell then 2 else if count then 0 else if dwell then 1 else 3

/-- The conflict record, or its absence (R53). -/
def conflictBytes : Option ConflictRec → List Byte
  | some c => c.bytes
  | none => [0xFF#8, 0xFF#8, 0xFF#8] ++ u16 0xFFFF ++ [0xFF#8] ++ u16 0xFFFF ++ opt24 none

/-- OPENING_QUERY of shutter n, whose record guards opening j (R53). -/
def openingQueryBytes (n j finalTime : Nat) (s : State) : List Byte :=
  let o := s.openingStatus j
  u8 n ++ u8 j ++ yesNo o.present ++ optYesNo (if o.present then some o.occupant.isSome else none) ++
    opt8 o.occupant ++ opt16 (o.approach.map Approach.distance) ++ opt8 (o.approach.map Approach.cabin) ++
    opt16 (o.approach.map Approach.time) ++ u16 s.chain.speed ++ yesNo s.chain.synced ++ yesNo s.chain.moving ++
    u16 s.chain.restMs ++ u16 finalTime ++ u16 s.store.timing.margin ++ u8 s.store.timing.dwell ++
    u16 (finalTime + s.store.timing.margin) ++ yesNo (s.clearByCount j finalTime || s.clearByDwell j) ++
    u8 (groundCode (s.clearByCount j finalTime) (s.clearByDwell j)) ++ yesNo (s.inDoorway n) ++
    yesNo s.board.latch.isSome ++ conflictBytes s.board.latch

/-! ### Shutters -/

/-- A shutter's state by name, all ones when it has none. -/
def State.shutterState (s : State) (n : Nat) : List Byte := opt8 ((s.unit n).map fun sh => sh.state.phase.ctorIdx)

/-- A shutter's place in the raise queue, counted from 1 at the head (R78). -/
def State.raisePlace (s : State) (n : Nat) : Option Nat := (s.shutters.raiseQueue.findIdx? (· == n)).map (· + 1)

def ShutterState.pauseCause? : ShutterState → Option Nat
  | .paused c _ _ => some c.ctorIdx
  | _ => none

def ShutterState.resumePhase? : ShutterState → Option Nat
  | .paused _ r _ => some r.ctorIdx
  | _ => none

def ShutterState.mark? : ShutterState → Option Bool
  | .held m => some m
  | _ => none

def ShutterState.limitLeft? : ShutterState → Option Nat
  | .dropping t => some t
  | .final t => some t
  | .raising t => some t
  | _ => none

/-- The edge-clear time or the retry time while it is counted (R56, R66, R67). -/
def State.countedTime (s : State) (n : Nat) : Option Nat :=
  match (s.unit n).map Shutter.state with
  | some (.paused .obstruction _ t) => some t
  | some (.fault .obstructed t) => if s.fire.state = .evacuate && s.retryOrdered n then some t else none
  | _ => none

/-- The obstruction count and the fire-ordered flag of a commissioned shutter outside UNCONFIGURED (R79): 0 and clear until
the first reading gives it a state (R58). -/
def State.standing? (s : State) (n : Nat) : Option (Nat × Bool) :=
  if s.unconfigured || (s.record n).isNone then none
  else match s.unit n with
    | some sh => some (sh.obstructions, sh.fireOrdered)
    | none => some (0, false)

/-- SHUTTER_STATUS (R79). In UNCONFIGURED "commissioned" is carried as it stands, and the RAISING set is listed by ascending
index: the model's choices (log entry 34). So is it that the edge-clear or retry time is carried in ms, in two bytes (log
entry 46). -/
def shutterStatus (n : Nat) (s : State) : List Byte :=
  let i := s.inputs n
  let st := (s.unit n).map Shutter.state
  yesNo (s.record n).isSome ++ yesNo i.top ++ yesNo i.bottom ++ yesNo i.clear ++ yesNo i.edge ++
    yesNo (s.releaseOut n) ++ yesNo (s.motorOut n) ++ yesNo s.shutters.failSafe ++ s.shutterState n ++
    opt8 ((st.bind ShutterState.faultCause?).map FaultCause.ctorIdx) ++ opt8 (st.bind ShutterState.pauseCause?) ++
    opt8 (st.bind ShutterState.resumePhase?) ++ optYesNo (st.bind ShutterState.mark?) ++
    opt24 (st.bind ShutterState.limitLeft?) ++ opt8 ((s.standing? n).map Prod.fst) ++
    optYesNo ((s.standing? n).map Prod.snd) ++ opt16 (s.countedTime n) ++ opt8 (s.raisePlace n) ++
    listOf (s.shutters.raiseQueue.map u8) ++
    listOf (((List.range 32).filter fun k => isRaising (s.unit k)).map u8)

/-! ### Fire -/

/-- A line's reading; 4 for "not yet taken" (R93). -/
def readingBytes : Option Reading → List Byte
  | some r => u8 r.ctorIdx
  | none => u8 4

/-- A last-fault record, or its absence (R93). -/
def lineFaultBytes : Option LineFault → List Byte
  | some f => u8 (if f.short then 1 else 0) ++ opt24 f.time
  | none => [0xFF#8] ++ opt24 none

/-- The group schedule as FIRE_STATUS carries it (R93): delay, groups ordered, next group and the time left until it. With
no schedule they are absent, so too in an EVACUATE that is only held in a start-up read, whose schedule R89 has discarded:
the model's choice (log entry 35). -/
def scheduleBytes : Option GroupSchedule → List Byte
  | none => [0xFF#8] ++ u8 0 ++ [0xFF#8] ++ u16 0xFFFF
  | some g =>
    u8 g.delay ++ listOf ((List.range g.next).map u8) ++
      (if g.next < 4 then u8 g.next ++ u16 g.left else [0xFF#8] ++ u16 0xFFFF)

/-- FIRE_STATUS (R93). -/
def fireStatus (f : Fire) : List Byte :=
  u8 f.state.ctorIdx ++ firstOr f.startUp ++ opt8 (f.entry.map fun e => e.cause.ctorIdx) ++
    opt24 (f.entry.bind FireEntry.time) ++ opt8 f.origin ++ readingBytes f.alertIn ++ readingBytes f.evacIn ++
    lineFaultBytes f.alertFault ++ lineFaultBytes f.evacFault ++ opt16 (f.escalation.map seconds) ++
    scheduleBytes f.schedule

/-! ### Calls -/

/-- A station entry in seven bytes (R111, R175): state, missed count, last reply, tallies. -/
def Station.bytes (e : Station) : List Byte :=
  firstOr e.present ++ u8 e.missed ++ opt8 (e.lastReply.map BitVec.toNat) ++ u16 e.corrupt ++ u16 e.missing

/-- The last-press record, or its absence (R109); "unmatched" is 0xFF (log entry 9). -/
def pressBytes : Option Press → List Byte
  | none => [0xFF#8, 0xFF#8, 0xFF#8, 0xFF#8, 0xFF#8, 0xFF#8] ++ opt24 none
  | some p => u8 p.station ++ u8 p.button ++ u8 p.code ++ opt8 p.filter ++ u8 p.decided.ctorIdx ++
      u8 p.taken.ctorIdx ++ opt24 p.time

/-- The Call Intake is polling (R111): not in UNCONFIGURED and not with an empty presence set. -/
def State.polling (s : State) : Bool := !s.unconfigured && s.presence != 0#64

/-- LOOP_STATUS with a quarter of the station table (R111, R175). The station now polled is present while polling; while the
first poll after a RESTART waits there is none to show, and it is absent: the model's choice (log entry 36). -/
def loopStatus (quarter : Nat) (s : State) : List Byte :=
  let i := s.intake
  u8 i.loopState.ctorIdx ++ u8 i.counter ++ opt8 i.recovery ++ yesNo s.polling ++
    opt8 (if s.polling then i.poll.map Poll.station else none) ++ bytes64 s.presence ++
    ((List.range 16).flatMap fun k => (i.station (16 * quarter + k)).bytes) ++
    u16 i.accepted ++ u16 i.rejected ++ u16 i.discarded ++ pressBytes i.lastPress

/-- A call record with its slot (R125). "Unmatched" is carried as 0xFF: the model's choice (log entry 9). -/
def callBytes (slot : Nat) (c : Call) : List Byte :=
  u8 slot ++ u8 c.code ++ opt8 c.filter ++ yesNo c.urgent ++ yesNo c.escalated ++ u8 c.repeats ++ opt24 c.time

/-- The escalation timer (R125): 0 running with the time left, 1 stopped and preset to E, 2 off. -/
def timerBytes (e : Nat) (x : Queue) : List Byte :=
  match x.timer with
  | some t => u8 0 ++ u16 (seconds t)
  | none => if x.calls.isEmpty && e != 0 then u8 1 ++ u16 e else u8 2 ++ u16 0xFFFF

/-- The pattern state by name (R120). -/
def Pattern.code : Pattern → Nat
  | .silent => 0
  | .striking .. => 1
  | .groupGap _ => 2
  | .patternWait _ => 3
  | .hushWait _ => 4

/-- The pattern code, the group number and the strike number (R125). A first group still to be struck of no pattern yet
begun carries the code absent and group number 1: the model's choice (log entry 39). -/
def Pattern.bytes (p : Pattern) : List Byte :=
  u8 p.code ++ match p with
  | .silent => [0xFF#8, 0xFF#8, 0xFF#8]
  | .striking c g ms _ => u8 c ++ u8 g ++ u8 (min (ms / 400 + 1) (strikes c g))
  | .groupGap n => opt8 n.code ++ u8 n.group ++ [0xFF#8]
  | .patternWait n => opt8 n.code ++ u8 n.group ++ [0xFF#8]
  | .hushWait n => opt8 n.code ++ u8 n.group ++ [0xFF#8]

/-- The code display (R123): the head's code with its marks, or blank. -/
def Queue.display (x : Queue) : Option (Nat × Bool × Bool) := x.calls.head?.map fun c => (c.code, c.urgent, c.escalated)

/-- The display as READ_CALLS carries it. -/
def displayBytes : Option (Nat × Bool × Bool) → List Byte
  | none => [0xFF#8, 0xFF#8, 0xFF#8]
  | some (c, u, e) => u8 c ++ yesNo u ++ yesNo e

/-- READ_CALLS (R125). -/
def readCalls (q : QueueName) (s : State) : List Byte :=
  let x := s.queue q
  yesNo (s.overwrites q) ++ u8 x.head ++ u8 x.calls.length ++
    listOf (x.calls.mapIdx fun i c => callBytes (x.slotOf i) c) ++ timerBytes (s.escalationTime q) x ++ u16 x.lost ++
    u16 x.displaced ++ u16 x.localAcks ++ x.pattern.bytes ++ displayBytes x.display ++ yesNo (x.pattern.code = 4)

/-! ### Announcements -/

/-- The player state by name (R132). -/
def Player.code : Player → Nat
  | .idle => 0
  | .chime .. => 1
  | .phrase .. => 2
  | .gap _ => 3

/-- The chime tone or the phrase position, each counted from 1 (R149). -/
def Player.position : Player → Nat
  | .chime r ms => min (ms / 600 + 1) r.script.chime
  | .phrase _ i _ _ => i + 1
  | _ => 0xFF

/-- The run in hand, or its absence (R149). -/
def Player.runBytes (p : Player) : List Byte :=
  match p.run? with
  | none => [0xFF#8, 0xFF#8, 0xFF#8, 0xFF#8, 0xFF#8, 0xFF#8] ++ opt24 none ++ [0xFF#8]
  | some r => u8 r.source.code ++ u8 r.script.marker ++ u8 r.number ++ u8 p.position ++ u8 r.played ++ u8 r.skipped ++
      opt24 r.start ++ opt8 (r.endRequest.map EndRequest.ctorIdx)

def Player.gapLeft? : Player → Option Nat
  | .gap t => some t
  | _ => none

/-- A slot's state by name (R127). -/
def Slot.code : Slot → Nat
  | .free => 0
  | .pending .. => 1
  | .playing .. => 2
  | .repeatWait .. => 3

/-- What a slot holds beside its state (R127). -/
def Slot.post? : Slot → Option (Post × Nat)
  | .free => none
  | .pending p n _ => some (p, n)
  | .playing p n => some (p, n)
  | .repeatWait p n _ => some (p, n)

/-- A slot as ANNOUNCE_STATUS carries it (R149): state, marker, class, repeats, interval (absent for a closing step, R10),
run number, start, eligible or held (R130), repeat time left. That the repeat time left is in whole seconds is the model's
choice (log entry 6). -/
def slotBytes (s : State) (x : Slot) : List Byte :=
  let held := match x.post? with
    | some (p, _) => s.holds p.script.cls
    | none => false
  let standing := match x with
    | .pending _ _ start => optFirst (if held then some false else if start.isNone then some true else none)
    | _ => [0xFF#8]
  let start := match x with
    | .pending _ _ (some t) => opt24 (some t)
    | _ => opt24 none
  let left := match x with
    | .repeatWait _ _ t => opt16 (some (seconds t))
    | _ => opt16 none
  u8 x.code ++ (match x.post? with
    | none => [0xFF#8, 0xFF#8, 0xFF#8] ++ u16 0xFFFF ++ [0xFF#8]
    | some (p, n) => u8 p.script.marker ++ u8 p.script.cls ++ u8 p.repeats ++ opt16 p.interval ++ u8 n) ++
    start ++ standing ++ left

/-- A fire script as ANNOUNCE_STATUS carries it (R149): present or absent, due, time until next made due, which is in whole
seconds by the model's choice (log entry 6). -/
def fireScriptBytes (script : Option Script) (due : Bool) (timer : Option Nat) : List Byte :=
  firstOr script.isSome ++ yesNo due ++ opt16 (timer.map seconds)

/-- The waiting step, or its absence (R149). -/
def waitingBytes : Option Script → List Byte
  | none => [0xFF#8, 0xFF#8]
  | some x => u8 x.marker ++ u8 x.cls

/-- ANNOUNCE_STATUS (R149). -/
def announceStatus (s : State) : List Byte :=
  let a := s.announcer
  u8 a.player.code ++ a.player.runBytes ++ opt16 a.player.gapLeft? ++ bytes16 s.speakerGroups ++
    a.slots.flatMap (slotBytes s) ++ waitingBytes a.waiting ++
    fireScriptBytes s.store.tables.scriptA a.dueA a.timerA ++ fireScriptBytes s.store.tables.scriptE a.dueE a.timerE ++
    u8 a.log.length ++ u16 a.overflow

/-- A log record with its index (R146, R147). -/
def logBytes (i : Nat) (r : LogRec) : List Byte :=
  u8 i ++ u8 r.source.code ++ u8 r.marker ++ u8 r.outcome.ctorIdx ++ u8 r.number ++ opt24 r.start ++ opt24 r.finish ++
    u8 r.played ++ u8 r.skipped

/-- READ_LOG of a count (R147). -/
def readLog (n : Nat) (a : Announcer) : List Byte :=
  u8 a.log.length ++ u16 a.overflow ++ listOf ((a.log.take n).mapIdx logBytes)

/-- The reply of an accepted POST_ANNOUNCEMENT (R128): the script as stored, and the slot state. The start stands between
them as it was sent: the model's choice (log entry 40). -/
def postBytes (p : Post) (start : BitVec 24) (x : Slot) : List Byte :=
  p.script.bytes ++ u8 p.repeats ++ opt16 p.interval ++ bytes24 start ++ u8 x.code

/-! ### The store day and the link -/

/-- The closing progress in CLOSING (R155), the offset posted first listed first: the model's choice (log entry 9). -/
def progressBytes (d : Day) : List Byte := listOf ((if d.state = .closing then d.posted else []).map u8)

/-- The limit time left, in CLEARING and OPENING (R155). -/
def Day.limitLeft (d : Day) : Option Nat :=
  match d.state with
  | .clearing => d.clearingLeft
  | .opening => d.openingLeft
  | _ => none

/-- The store report (R155). A wake flag carries 1 when latched: the model's choice (log entry 9). -/
def storeReport (d : Day) : List Byte :=
  u8 d.state.ctorIdx ++ opt8 (d.last.previous.map StoreState.ctorIdx) ++ u8 d.last.cause.ctorIdx ++
    opt24 d.last.time ++ opt24 d.clock ++ opt24 d.schedule.opening ++ opt24 d.schedule.closing ++
    yesNo d.schedule.wakeOn ++ yesNo d.schedule.planOn ++ yesNo d.schedule.keyEnable ++ yesNo d.wakeOpenNow ++
    yesNo d.wakeTime ++ yesNo d.wakeKey ++ firstOr d.key ++ u16 d.keyHold ++ progressBytes d ++
    opt16 (d.limitLeft.map seconds) ++ yesNo d.forced

/-- GET_STATUS (R181). -/
def getStatus (s : State) : List Byte :=
  storeReport s.day ++ yesNo s.store.lock ++ yesNo s.store.unsaved ++ yesNo s.store.imageFault ++
    yesNo s.store.saving.isSome ++ u8 s.fire.state.ctorIdx ++ u8 s.chain.state.phase.ctorIdx ++
    u8 s.intake.loopState.ctorIdx ++ u8 s.announcer.player.code ++ conditionSet (·.latched.isSome) s.link ++
    conditionSet Notice.armed s.link ++ u16 s.link.crcDiscards ++ u16 s.link.gapDiscards ++
    u16 s.link.overrunDiscards ++ u16 s.link.kindRefusals

end Sys2Proof.Machine
end

