-- ==== Sys2Proof/Machine/Commission.lean ====
section
/-! DEFINITION. The Commissioning Store (chapter 1): the checks and effects of the writes, the lock, the save and the image
load. A write answers its reply payload with the state after it. -/

namespace Sys2Proof.Machine

/-- A reply payload and the state after the request. -/
abbrev Answered := List Byte × State

/-- A refusal: the code alone, nothing changed (R175). -/
def refuse (r : Result) (s : State) : Answered := (r.with [], s)

/-! ### The checks of a write (R1) -/

/-- The first check of R1 that fails, for a record the lock freezes. -/
def State.writeRefusal (s : State) (indexOk valueOk fireOk stateOk : Bool) : Option Result :=
  if s.store.lock then some .locked
  else if s.store.saving.isSome then some .busy
  else if !indexOk then some .badIndex
  else if !valueOk then some .badValue
  else if !fireOk then some .fireActive
  else if !stateOk then some .wrongState
  else none

/-- Store new tables; an accepted write sets the unsaved-tables flag (R1, R13). -/
def setTables (t : Tables) (s : State) : State := { s with store := { s.store with tables := t, unsaved := true } }

/-- Lower each shutter that the write has made night-close while the store is SHUTTING, SHUT or WAKING (R76). -/
def lowerNewlyNightClose (before : State) (s : State) : State :=
  if s.day.latches then forShutters (fun n => s.nightClose n && !before.nightClose n) lowerOrder s else s

/-- Some shutter record fulfils a condition. -/
def Tables.anyShutter (t : Tables) (p : ShutterRec → Bool) : Bool := t.shutters.any fun r => r.any p

/-! ### Zones (R2, R3) -/

/-- WRITE_ZONE, a zone entry (R2). -/
def writeZoneEntry (zone type group night hush : Byte) (s : State) : Answered :=
  let entry := zoneEntry? type group night hush
  let agrees := match entry with
    | some z => z.type != .unused || !s.store.tables.anyShutter (·.zone == zone.toNat)
    | none => false
  match s.writeRefusal (zone.toNat < 32) agrees true true, entry with
  | none, some z =>
    let t := { s.store.tables with zones := s.store.tables.zones.set zone.toNat z }
    (Result.ok.with z.bytes, settle (lowerNewlyNightClose s (setTables t s)))
  | r, _ => refuse (r.getD .badValue) s

/-- WRITE_ZONE, the site entry (R3). -/
def writeSite (presence : BitVec 64) (counting floor : Byte) (s : State) : Answered :=
  let site : Site := ⟨presence, counting.toNat, floor.toNat⟩
  match s.writeRefusal true (counting.toNat < 32 && floor.toNat < 32) true true with
  | some r => refuse r s
  | none => (Result.ok.with site.bytes, settle (presenceWritten (setTables { s.store.tables with site := site } s)))

/-- READ_ZONE (R1, R3). -/
def readZone (zone : Byte) (s : State) : List Byte :=
  if zone = 32#8 then Result.ok.with s.store.tables.site.bytes
  else if zone.toNat < 32 then Result.ok.with (s.zone zone.toNat).bytes
  else Result.badIndex.with []

/-! ### Shutters (R4) -/

/-- A landing is present (R6). -/
def State.landingPresent (s : State) (l : Nat) : Bool := (s.store.tables.landings.getD l none).isSome

/-- The checks of R4 on a shutter record's fields, and the record as stored. -/
def State.shutter? (s : State) (op zone kind opening : Byte) (t1 t : BitVec 16) (limit group : Byte) :
    Option ShutterRec :=
  if op = 0#8 && decide (zone.toNat < 32) && (s.zone zone.toNat).type != .unused && inRange 1 120 limit.toNat &&
      decide (group.toNat < 4) then
    match stepTime? t1.toNat, kind.toNat with
    | some d, 0 => some ⟨zone.toNat, .plain, d, limit.toNat, group.toNat⟩
    | some d, 1 =>
      if opening.toNat < 16 && s.landingPresent (opening.toNat / 2) then
        (stepTime? t.toNat).map fun f => ⟨zone.toNat, .opening opening.toNat f, d, limit.toNat, group.toNat⟩
      else none
    | _, _ => none
  else none

/-- The owning block allows a write to a shutter's place (R4, R15). -/
def State.shutterWritable (s : State) (n : Nat) : Bool :=
  s.unconfigured || (s.record n).isNone || openOrClosed (s.unit n)

/-- Give a newly commissioned shutter a state from its limit inputs (R4, R58). -/
def commissionUnit (n : Nat) (s : State) : State :=
  if s.unconfigured || !s.shutters.inputsRead then s
  else putUnit n (Shutter.fresh (stateFromLimits (s.inputs n))) s

/-- Take a shutter's running state away. -/
def dropUnit (n : Nat) (s : State) : State :=
  { s with shutters := { s.shutters with units := s.shutters.units.set n none } }

/-- WRITE_SHUTTER (R4). -/
def writeShutter (index : Byte) (w : ShutterWrite) (s : State) : Answered :=
  let n := index.toNat
  let record : Option (Option ShutterRec) := match w with
    | .deletion => some none
    | .record op zone kind opening t1 t limit group => (s.shutter? op zone kind opening t1 t limit group).map some
  match s.writeRefusal (n < 32) record.isSome (s.fire.state = .normal) (s.shutterWritable n), record with
  | none, some r =>
    let s' := setTables { s.store.tables with shutters := s.store.tables.shutters.set n r } s
    let s' := match r with
      | none => dropUnit n s'
      | some _ => if (s.record n).isNone then commissionUnit n s' else s'
    (Result.ok.with (shutterBytes r), settle (lowerNewlyNightClose s s'))
  | r, _ => refuse (r.getD .badValue) s

/-- READ_SHUTTER (R1). -/
def readShutter (index : Byte) (s : State) : List Byte :=
  if index.toNat < 32 then Result.ok.with (shutterBytes (s.record index.toNat)) else Result.badIndex.with []

/-! ### Chain and landings (R5, R6) -/

/-- Every present landing's positions lie below a chain length (R5). -/
def Tables.landingsBelow (t : Tables) (length : Nat) : Bool :=
  t.landings.all fun l => l.all fun x => x.up < length && x.dn < length

/-- The chain is STOPPED. -/
def State.chainStopped (s : State) : Bool := s.chain.state = .stopped

/-- WRITE_CHAIN (R5). -/
def writeChain (f : ChainFields) (s : State) : Answered :=
  let g? := geometry? f
  match s.writeRefusal true (g?.any fun g => s.store.tables.landingsBelow g.length) true s.chainStopped, g? with
  | none, some g =>
    let s := setTables { s.store.tables with geometry := some g } s
    (Result.ok.with (geometryBytes (some g)),
      settle { s with chain := { s.chain with p := 0, synced := false, lastSlip := none, parked := false } })
  | r, _ => refuse (r.getD .badValue) s

/-- READ_CHAIN (R1). -/
def readChain (s : State) : List Byte := Result.ok.with (chainRecordBytes s.store.tables)

/-- A shutter record names an opening of a landing. -/
def ShutterRec.names (landing : Nat) (r : ShutterRec) : Bool := r.opening?.any (· / 2 == landing)

/-- The landing entry a write carries, when its fields are in range and agree with the other records (R6). -/
def State.landing? (s : State) (l : Nat) (present : Byte) (up dn : BitVec 16) : Option (Option Landing) :=
  match flag? present with
  | none => none
  | some true =>
    let below := match s.store.tables.geometry with
      | some g => up.toNat < g.length && dn.toNat < g.length
      | none => true
    if below then some (some ⟨up.toNat, dn.toNat⟩) else none
  | some false => if s.store.tables.anyShutter (·.names l) then none else some none

/-- The owning blocks allow a landing to be written (R6, R15). -/
def State.landingWritable (s : State) (l : Nat) : Bool :=
  s.store.tables.geometry.isSome && s.chainStopped &&
    (s.unconfigured || (List.range 32).all fun n =>
      match s.record n with
      | some r => !r.names l || openOrClosed (s.unit n)
      | none => true)

/-- WRITE_LANDING (R6). -/
def writeLanding (index present : Byte) (up dn : BitVec 16) (s : State) : Answered :=
  let entry := s.landing? index.toNat present up dn
  match s.writeRefusal (index.toNat < 8) entry.isSome true (s.landingWritable index.toNat), entry with
  | none, some e =>
    (Result.ok.with (landingBytes e),
      settle (setTables { s.store.tables with landings := s.store.tables.landings.set index.toNat e } s))
  | r, _ => refuse (r.getD .badValue) s

/-! ### Filters, phrases and scripts (R7 to R10) -/

/-- WRITE_FILTER (R7). -/
def writeFilter (index enabled kind first second action night : Byte) (s : State) : Answered :=
  let entry := filter? enabled kind first second action night
  match s.writeRefusal (index.toNat < 24) entry.isSome true true, entry with
  | none, some f =>
    (Result.ok.with f.bytes,
      settle (setTables { s.store.tables with filters := s.store.tables.filters.set index.toNat f } s))
  | r, _ => refuse (r.getD .badValue) s

/-- READ_FILTER (R1). -/
def readFilter (index : Byte) (s : State) : List Byte :=
  match s.store.tables.filters[index.toNat]? with
  | some f => Result.ok.with f.bytes
  | none => Result.badIndex.with []

/-- WRITE_PHRASE (R8). -/
def writePhrase (index : Byte) (start length : BitVec 24) (s : State) : Answered :=
  let entry : Phrase := ⟨start.toNat, length.toNat⟩
  match s.writeRefusal true (start.toNat + length.toNat ≤ Config.flashSize) true true with
  | some r => refuse r s
  | none =>
    (Result.ok.with entry.bytes,
      settle (setTables { s.store.tables with phrases := s.store.tables.phrases.set index.toNat entry } s))

/-- WRITE_FIRE_SCRIPT (R9). A script written where none was makes itself not due: the model's choice (log entry 37). -/
def writeFireScript (name : Byte) (f : ScriptFields) (s : State) : Answered :=
  let script := script? f
  match s.writeRefusal (name.toNat < 2) script.isSome true true, script with
  | none, some x =>
    let t := if name = 0#8 then { s.store.tables with scriptA := some x } else { s.store.tables with scriptE := some x }
    (Result.ok.with x.bytes, settle (setTables t s))
  | r, _ => refuse (r.getD .badValue) s

/-- Another present step has this offset (R10). -/
def Tables.offsetTaken (t : Tables) (index offset : Nat) : Bool :=
  (List.range 6).any fun k => k != index && (t.plan.getD k none).any (·.offset == offset)

/-- The step that a write carries, when its fields are in range and agree with the other steps (R10). -/
def State.step? (s : State) (index : Nat) : ClosingWrite → Option (Option ClosingStep)
  | .deletion => some none
  | .step op offset f =>
    if op = 0#8 && offset.toNat ≤ 120 && !s.store.tables.offsetTaken index offset.toNat then
      (script? f).map fun x => some ⟨offset.toNat, x⟩
    else none

/-- WRITE_CLOSING_STEP (R10). -/
def writeClosingStep (index : Byte) (w : ClosingWrite) (s : State) : Answered :=
  let entry := s.step? index.toNat w
  match s.writeRefusal (index.toNat < 6) entry.isSome true (s.day.state != .closing), entry with
  | none, some e =>
    (Result.ok.with (stepBytes e),
      settle (setTables { s.store.tables with plan := s.store.tables.plan.set index.toNat e } s))
  | r, _ => refuse (r.getD .badValue) s

/-! ### Timing set, lock and save (R11 to R13) -/

/-- WRITE_TIMINGS (R11). -/
def writeTimings (f : TimingFields) (s : State) : Answered :=
  if s.store.saving.isSome then refuse .busy s
  else (Result.ok.with (timingOf f).bytes, settle { s with store := { s.store with timing := timingOf f } })

/-- LOCK_COMMISSION (R12). -/
def lockCommission (s : State) : Answered :=
  if s.store.lock then (Result.ok.with [], s)
  else if s.store.saving.isSome then refuse .busy s
  else if s.unconfigured || s.store.unsaved then refuse .wrongState s
  else (Result.ok.with [], { s with store := { s.store with lock := true } })

/-- One image is newer than another: 1 counts as higher than 65,535 (section 1.9). -/
def Image.newer (a b : Image) : Bool :=
  if a.sequence = 1 && b.sequence = 65535 then true
  else if a.sequence = 65535 && b.sequence = 1 then false
  else b.sequence < a.sequence

/-- The newest good image, and whether bank 1 holds it (section 1.9). -/
def Commission.newest? (c : Commission) : Option (Bool × Image) :=
  match c.bank0, c.bank1 with
  | none, none => none
  | some a, none => some (false, a)
  | none, some b => some (true, b)
  | some a, some b => if b.newer a then some (true, b) else some (false, a)

/-- The save that a SAVE_SETTINGS taken now begins (R13): the bank and the image. -/
def State.saveJob (s : State) : SaveJob :=
  let image := fun n => (⟨n, s.store.tables, s.store.timing, s.day.schedule⟩ : Image)
  match s.store.newest? with
  | none => ⟨false, image 1⟩
  | some (inBank1, a) => ⟨!inBank1, image (if a.sequence = 65535 then 1 else a.sequence + 1)⟩

/-- Store what a bank holds. -/
def Commission.setBank (bank1 : Bool) (image : Option Image) (c : Commission) : Commission :=
  if bank1 then { c with bank1 := image } else { c with bank0 := image }

/-- Why a SAVE_SETTINGS is refused at its taking, if it is (R13). -/
def State.saveRefusal (s : State) : Option Result :=
  if s.store.saving.isSome then some .busy
  else if s.store.tables.geometry.isNone then some .wrongState
  else none

/-- A save begins (R13): the bank being written is not good meanwhile. -/
def beginSave (s : State) : State :=
  { s with store := { Commission.setBank s.saveJob.intoBank1 none s.store with saving := some s.saveJob } }

/-- A save ends (R13). With a good read-back the bank holds the image, and the unsaved-tables and image-fault flags are
cleared (R14). -/
def Commission.endSave (good : Bool) (job : SaveJob) (c : Commission) : Commission :=
  if good then
    { Commission.setBank job.intoBank1 (some job.image) c with saving := none, unsaved := false, imageFault := false }
  else { c with saving := none }

/-- The Commissioning Store after a power-on or pin reset, with its schedule (R14). `lock` is the lock before it, clear
at power-on. -/
def loadImage (lock : Bool) (s : State) : Commission × Schedule :=
  match lock, s.store.newest? with
  | false, some (_, a) =>
    ({ s.store with tables := a.tables, timing := a.timing, lock := false, unsaved := false, imageFault := false,
                    saving := none }, a.schedule)
  | false, none =>
    ({ s.store with tables := Tables.empty, timing := Timing.default, lock := false, unsaved := true,
                    imageFault := false, saving := none }, Schedule.empty)
  | true, some (_, a) =>
    ({ s.store with timing := a.timing, unsaved := false, imageFault := false, saving := none }, a.schedule)
  | true, none =>
    ({ s.store with unsaved := true, imageFault := true, saving := none }, s.day.schedule)

end Sys2Proof.Machine
end

