-- ==== Sys2Proof/Machine/Serve.lean ====
section
/-! DEFINITION. What each request does once the service link has passed it to the block that owns it: the checks and the
effect of the request's rule, with the payload of its reply. -/

namespace Sys2Proof.Machine

/-- A refusal or an effect whose reply is built from the state after it. -/
def answer (reply : State → List Byte) (s : State) : Answered := (reply s, s)

/-- OK with the store report as it stands afterwards (R155). -/
def okReport (s : State) : Answered := (Result.ok.with (storeReport s.day), s)

/-! ### The store day (chapter 9) -/

/-- SET_TIME (R153). -/
def serveSetTime (t : BitVec 24) (s : State) : Answered :=
  if Config.day ≤ t.toNat then refuse .badValue s
  else if s.day.state = .closing then refuse .wrongState s
  else okReport (settle (clockShows t.toNat s))

/-- SET_SCHEDULE (R154). -/
def serveSetSchedule (opening closing : BitVec 24) (wakeOn planOn : Byte) (s : State) : Answered :=
  match optTime? opening, optTime? closing, freeFlag? wakeOn, freeFlag? planOn with
  | some o, some c, some w, some p =>
    if s.store.saving.isSome then refuse .busy s
    else if s.day.state = .closing then refuse .wrongState s
    else
      let schedule := { s.day.schedule with opening := o, closing := c, wakeOn := w, planOn := p }
      okReport (settle (closeWindowTest { s with day := { s.day with schedule := schedule } }))
  | _, _, _, _ => refuse .badValue s

/-- OPEN_NOW (R168). -/
def serveOpenNow (s : State) : Answered :=
  if s.fire.state = .evacuate then refuse .fireActive s
  else match s.day.state with
    | .standby => okReport (settle (enterOpening .openNow s))
    | .shutting => okReport (settle { s with day := { s.day with wakeOpenNow := true } })
    | .shut => okReport (settle { s with day := { s.day with wakeOpenNow := true } })
    | .waking => okReport (settle { s with day := { s.day with wakeOpenNow := true } })
    | .trading => okReport s
    | .opening => okReport s
    | .closing => refuse .wrongState s
    | .clearing => refuse .wrongState s
    | .unconfigured => refuse .unconfigured s

/-- CLOSE_NOW (R159). -/
def serveCloseNow (s : State) : Answered :=
  match s.day.state with
  | .trading => okReport (settle (enterClearing .closeNow (postStep 0 s)))
  | .closing => okReport (settle (enterClearing .closeNow (postStep 0 s)))
  | .standby => okReport (settle (enterClearing .closeNow (postStep 0 s)))
  | .clearing => okReport s
  | .shutting => okReport s
  | .shut => okReport s
  | .waking => refuse .wrongState s
  | .opening => refuse .wrongState s
  | .unconfigured => refuse .unconfigured s

/-- SET_WAKE (R169). -/
def serveSetWake (keyEnable clearFlags : Byte) (s : State) : Answered :=
  match freeFlag? keyEnable, freeFlag? clearFlags with
  | some k, some c =>
    if s.store.saving.isSome then refuse .busy s
    else
      let s := { s with day := { s.day with schedule := { s.day.schedule with keyEnable := k } } }
      okReport (settle (if c then clearWakeFlags s else s))
  | _, _ => refuse .badValue s

/-! ### The chain (chapter 2) and its openings (chapter 3) -/

/-- CHAIN_START (R27). -/
def serveChainStart (s : State) : Answered :=
  if !(s.day.state = .trading || s.day.state = .closing || s.day.state = .opening) then refuse .wrongState s
  else if s.fire.state = .evacuate then refuse .wrongState s
  else if !s.chainStopped then refuse .wrongState s
  else if s.board.latch.isSome then refuse .busy s
  else if !s.chain.driveOk then refuse .busy s
  else (Result.ok.with [], settle (setChain (if s.chain.synced then .running else .syncRun 0) s))

/-- CHAIN_STOP (R33). -/
def serveChainStop (s : State) : Answered := (Result.ok.with [], settle (stopChain s))

/-- CHAIN_PARK (R32). -/
def serveChainPark (s : State) : Answered :=
  match s.chain.state with
  | .running => (Result.ok.with [], settle (setChain .parking s))
  | .clearOut _ => (Result.ok.with [], s)
  | .parking => (Result.ok.with [], s)
  | .syncRun _ => refuse .wrongState s
  | .stopped => refuse .wrongState s
  | .stopping _ => refuse .wrongState s
  | .halted _ => refuse .wrongState s

/-- Every button of the stop-push set is released (R38, R110). -/
def State.pushesReleased (s : State) : Bool :=
  (List.range 256).all fun c => !s.chain.stopPushes.getLsbD c || !s.buttonHeld c

/-- CHAIN_RESET (R38). -/
def serveChainReset (s : State) : Answered :=
  match s.chain.state with
  | .halted _ =>
    if !s.chain.moving && s.chain.driveOk && s.board.latch.isNone && s.pushesReleased then
      let s := setChain .stopped s
      (Result.ok.with [], settle { s with chain := { s.chain with stopPushes := 0 } })
    else refuse .busy s
  | _ => refuse .wrongState s

/-- OPENING_QUERY (R53). -/
def serveOpeningQuery (index : Byte) (s : State) : List Byte :=
  if index.toNat < 32 then
    match s.record index.toNat with
    | none => Result.empty.with []
    | some r =>
      match r.kind with
      | .plain => Result.badValue.with []
      | .opening j t => Result.ok.with (openingQueryBytes index.toNat j t s)
  else Result.badIndex.with []

/-! ### Shutters (chapter 4) -/

/-- SHUTTER_LOWER (R78). -/
def serveShutterLower (index : Byte) (s : State) : Answered :=
  let n := index.toNat
  if !decide (n < 32) then refuse .badIndex s
  else if (s.record n).isNone then refuse .empty s
  else answer (fun s => Result.ok.with (s.shutterState n)) (settle (lowerOrder n s))

/-- SHUTTER_RAISE (R78): its reply carries the state and the place in the queue with every result of R70. -/
def serveShutterRaise (index : Byte) (s : State) : Answered :=
  let n := index.toNat
  if !decide (n < 32) then refuse .badIndex s
  else
    let (r, s') := raiseOrder true n s
    answer (fun s => r.with (s.shutterState n ++ opt8 (s.raisePlace n))) (if r = .ok then settle s' else s')

/-- SHUTTER_STATUS (R79). -/
def serveShutterStatus (index : Byte) (s : State) : List Byte :=
  if index.toNat < 32 then Result.ok.with (shutterStatus index.toNat s) else Result.badIndex.with []

/-! ### Fire (chapter 5) -/

/-- FIRE_REPORT (R88). -/
def serveFireReport (floor : Byte) (s : State) : Answered :=
  if 7 < floor.toNat then refuse .badValue s
  else if s.fire.startUp then refuse .busy s
  else if s.fire.state = .normal then refuse .wrongState s
  else answer (fun s => Result.ok.with (opt8 s.fire.origin)) (settle (originOrder floor.toNat s))

/-- FIRE_RESET (R90). -/
def serveFireReset (s : State) : Answered :=
  if s.fire.startUp then refuse .busy s
  else if s.fire.state = .normal then (Result.ok.with [], s)
  else if s.fire.alertIn = some .normal && s.fire.evacIn = some .normal then
    (Result.ok.with [], settle (toNormal .reset s))
  else refuse .busy s

/-! ### Calls (chapters 6 and 7) -/

/-- READ_CALLS (R125). -/
def serveReadCalls (queue : Byte) (s : State) : List Byte :=
  match queueName? queue.toNat with
  | some q => Result.ok.with (readCalls q s)
  | none => Result.badIndex.with []

/-- ACK_CALLS (R116). -/
def serveAckCalls (queue slot : Byte) (expected : Option Byte) (s : State) : Answered :=
  match queueName? queue.toNat with
  | none => refuse .badIndex s
  | some q =>
    let i := (s.queue q).indexOf slot.toNat
    match (s.queue q).calls[i]? with
    | none => refuse .badIndex s
    | some c =>
      if 7 < slot.toNat then refuse .badIndex s
      else if expected.any (·.toNat != c.code) then refuse .badValue s
      else answer (fun s => Result.ok.with (u8 (i + 1) ++ u8 (s.queue q).head ++ u8 (s.queue q).calls.length))
        (settle (acknowledge q (i + 1) s))

/-- LOOP_STATUS (R111, R175): an empty payload is quarter 0. -/
def serveLoopStatus (quarter : Option Byte) (s : State) : List Byte :=
  let k := (quarter.map BitVec.toNat).getD 0
  if k < 4 then Result.ok.with (loopStatus k s) else Result.badValue.with []

/-! ### Announcements (chapter 8) -/

/-- The post a POST_ANNOUNCEMENT carries, with its start, when check 2 of R128 holds. -/
def post? (f : PostFields) : Option (Post × Option Nat) :=
  match script? f.script, optTime? f.start with
  | some x, some start =>
    if f.repeats.toNat ≤ 9 then some (⟨x, f.repeats.toNat, some (clamp 10 3600 f.interval.toNat)⟩, start) else none
  | _, _ => none

/-- POST_ANNOUNCEMENT (R128, R129). -/
def servePost (slot : Byte) (f : PostFields) (s : State) : Answered :=
  let n := slot.toNat
  if 7 < n then refuse .badIndex s
  else match post? f with
    | none => refuse .badValue s
    | some (post, start) =>
      if s.fire.state = .evacuate then refuse .fireActive s
      else if s.day.state = .shut then refuse .wrongState s
      else if start.isSome && s.day.clock.isNone then refuse .noClock s
      else if s.slot n != .free then refuse .busy s
      else
        let arrived := if start = s.day.clock then none else start
        answer (fun s => Result.ok.with (postBytes post f.start (s.slot n)))
          (settle (setSlot n (.pending post 0 arrived) s))

/-- CANCEL_ANNOUNCEMENT (R137). -/
def serveCancel (slot : Byte) (s : State) : Answered :=
  if 8 < slot.toNat then refuse .badIndex s
  else match cancelSlot slot.toNat s with
    | (none, s) => refuse .empty s
    | (some r, s) => (Result.ok.with (u8 r.ctorIdx), settle s)

/-- READ_LOG (R147). -/
def serveReadLog (count : Byte) (s : State) : List Byte :=
  if inRange 1 8 count.toNat then Result.ok.with (readLog count.toNat s.announcer) else Result.badValue.with []

/-- ACK_LOG (R148). -/
def serveAckLog (index : Byte) (s : State) : Answered :=
  if index.toNat < s.announcer.log.length && decide (index.toNat < 16) then
    let log := s.announcer.log.drop (index.toNat + 1)
    (Result.ok.with (u8 (index.toNat + 1) ++ u8 log.length), { s with announcer := { s.announcer with log := log } })
  else refuse .badIndex s

/-! ### The service link's own requests (chapter 10) -/

/-- ARM_NOTICES (R179). -/
def serveArmNotices (set : BitVec 16) (s : State) : Answered :=
  if namesBadCode set then refuse .badValue s
  else answer (fun s => Result.ok.with (noticeFlags s.link)) { s with link := Machine.armNotices set s.link }

/-- CLEAR_LATCH (R52, R180): code 2 is CONFLICT. -/
def serveClearLatch (set : BitVec 16) (s : State) : Answered :=
  if namesBadCode set then refuse .badValue s
  else if set.getLsbD 2 && !s.conflicts.isEmpty then refuse .busy s
  else
    let latch := if set.getLsbD 2 then none else s.board.latch
    answer (fun s => Result.ok.with (noticeFlags s.link))
      { s with board := { s.board with latch := latch }, link := clearNotices set s.link }

/-! ### The whole catalogue -/

/-- How a request is answered: its reply at once, the owed save reply (R174), or the restart's reply (R182). -/
inductive Answer where
  | reply (payload : List Byte)
  | owed
  | restart
deriving DecidableEq, Repr

/-- An answer made at once. -/
def now (a : Answered) : Answer × State := (.reply a.1, a.2)

/-- A request that reads and changes nothing. -/
def look (payload : List Byte) (s : State) : Answer × State := (.reply payload, s)

/-- SAVE_SETTINGS (R13, R174). -/
def serveSave (s : State) : Answer × State :=
  match s.saveRefusal with
  | some r => look (r.with []) s
  | none => (.owed, beginSave s)

/-- The request kinds served in UNCONFIGURED (R15): WRITE_ZONE through LOCK_COMMISSION, SAVE_SETTINGS, RESTART and the
status requests it names. -/
def servedUnconfigured (kind : Nat) : Bool :=
  inRange 0x10 0x1E kind || kind == 0x01 || kind == 0x07 || kind == 0x24 || kind == 0x32 || kind == 0x42 ||
    kind == 0x52 || kind == 0x62

/-- A request handed to the block that owns it. -/
def serve : Request → State → Answer × State
  | .getStatus, s => look (Result.ok.with (getStatus s)) s
  | .setTime t, s => now (serveSetTime t s)
  | .setSchedule o c w p, s => now (serveSetSchedule o c w p s)
  | .openNow, s => now (serveOpenNow s)
  | .closeNow, s => now (serveCloseNow s)
  | .setWake k c, s => now (serveSetWake k c s)
  | .restart, s => (.restart, s)
  | .writeZone (.entry z t g n h), s => now (writeZoneEntry z t g n h s)
  | .writeZone (.site p c f), s => now (writeSite p c f s)
  | .readZone z, s => look (readZone z s) s
  | .writeShutter i w, s => now (writeShutter i w s)
  | .readShutter i, s => look (readShutter i s) s
  | .writeChain g, s => now (writeChain g s)
  | .readChain, s => look (readChain s) s
  | .writeLanding i p u d, s => now (writeLanding i p u d s)
  | .writeFilter i e k f x a n, s => now (writeFilter i e k f x a n s)
  | .readFilter i, s => look (readFilter i s) s
  | .writePhrase i start length, s => now (writePhrase i start length s)
  | .writeFireScript n f, s => now (writeFireScript n f s)
  | .writeClosingStep i w, s => now (writeClosingStep i w s)
  | .writeTimings t, s => now (writeTimings t s)
  | .lockCommission, s => now (lockCommission s)
  | .saveSettings, s => serveSave s
  | .chainStart, s => now (serveChainStart s)
  | .chainStop, s => now (serveChainStop s)
  | .chainPark, s => now (serveChainPark s)
  | .chainReset, s => now (serveChainReset s)
  | .chainStatus, s => look (Result.ok.with (chainStatus s)) s
  | .openingQuery i, s => look (serveOpeningQuery i s) s
  | .shutterLower i, s => now (serveShutterLower i s)
  | .shutterRaise i, s => now (serveShutterRaise i s)
  | .shutterStatus i, s => look (serveShutterStatus i s) s
  | .fireReport f, s => now (serveFireReport f s)
  | .fireReset, s => now (serveFireReset s)
  | .fireStatus, s => look (Result.ok.with (fireStatus s.fire)) s
  | .readCalls q, s => look (serveReadCalls q s) s
  | .ackCalls q x e, s => now (serveAckCalls q x e s)
  | .loopStatus q, s => look (serveLoopStatus q s) s
  | .postAnnouncement n f, s => now (servePost n f s)
  | .cancelAnnouncement n, s => now (serveCancel n s)
  | .announceStatus, s => look (Result.ok.with (announceStatus s)) s
  | .readLog n, s => look (serveReadLog n s) s
  | .ackLog i, s => now (serveAckLog i s)
  | .armNotices set, s => now (serveArmNotices set s)
  | .clearLatch set, s => now (serveClearLatch set s)

end Sys2Proof.Machine
end

