-- ==== Sys2Proof/WellFormed.lean ====
section
/-! DEFINITION. Which commands the hardware can be given: an operand list fits its frame's count byte and the 200
payload bytes of a frame (R173), an index that chooses a payload's length chooses the one carried (R175), a reply on
the call loop has at least one byte (R96), and a request of unknown kind has a kind the catalogue does not list. -/

namespace Sys2Proof

/-- The payload, a script's count byte and the zone or operation byte agree, so that a frame can carry the request. -/
def Request.wellFormed (r : Request) : Bool :=
  decide (r.payload.length ≤ 200) &&
  match r with
  | .writeZone (.entry zone _ _ _ _) => zone != 32#8
  | .writeShutter _ (.record op ..) => op != 1#8
  | .writeClosingStep _ (.step op ..) => op != 1#8
  | _ => true

/-- The request a command stands for, with its tag; none for an event. -/
def Instr.request? : Instr → Option (Byte × Request)
  | .getStatus tag => some (tag, .getStatus)
  | .setTime tag t => some (tag, .setTime t)
  | .setSchedule tag o c w p => some (tag, .setSchedule o c w p)
  | .openNow tag => some (tag, .openNow)
  | .closeNow tag => some (tag, .closeNow)
  | .setWake tag k c => some (tag, .setWake k c)
  | .restart tag => some (tag, .restart)
  | .writeZone tag w => some (tag, .writeZone w)
  | .readZone tag z => some (tag, .readZone z)
  | .writeShutter tag i w => some (tag, .writeShutter i w)
  | .readShutter tag i => some (tag, .readShutter i)
  | .writeChain tag g => some (tag, .writeChain g)
  | .readChain tag => some (tag, .readChain)
  | .writeLanding tag i p u d => some (tag, .writeLanding i p u d)
  | .writeFilter tag i e k f s a n => some (tag, .writeFilter i e k f s a n)
  | .readFilter tag i => some (tag, .readFilter i)
  | .writePhrase tag i s l => some (tag, .writePhrase i s l)
  | .writeFireScript tag n s => some (tag, .writeFireScript n s)
  | .writeClosingStep tag i w => some (tag, .writeClosingStep i w)
  | .writeTimings tag t => some (tag, .writeTimings t)
  | .lockCommission tag => some (tag, .lockCommission)
  | .saveSettings tag => some (tag, .saveSettings)
  | .chainStart tag => some (tag, .chainStart)
  | .chainStop tag => some (tag, .chainStop)
  | .chainPark tag => some (tag, .chainPark)
  | .chainReset tag => some (tag, .chainReset)
  | .chainStatus tag => some (tag, .chainStatus)
  | .openingQuery tag i => some (tag, .openingQuery i)
  | .shutterLower tag i => some (tag, .shutterLower i)
  | .shutterRaise tag i => some (tag, .shutterRaise i)
  | .shutterStatus tag i => some (tag, .shutterStatus i)
  | .fireReport tag f => some (tag, .fireReport f)
  | .fireReset tag => some (tag, .fireReset)
  | .fireStatus tag => some (tag, .fireStatus)
  | .readCalls tag q => some (tag, .readCalls q)
  | .ackCalls tag q s e => some (tag, .ackCalls q s e)
  | .loopStatus tag q => some (tag, .loopStatus q)
  | .postAnnouncement tag s p => some (tag, .postAnnouncement s p)
  | .cancelAnnouncement tag s => some (tag, .cancelAnnouncement s)
  | .announceStatus tag => some (tag, .announceStatus)
  | .readLog tag n => some (tag, .readLog n)
  | .ackLog tag i => some (tag, .ackLog i)
  | .armNotices tag s => some (tag, .armNotices s)
  | .clearLatch tag s => some (tag, .clearLatch s)
  | .powerOnReset .. | .pinReset .. | .frameComplete .. | .receiveGapTimeout | .badKindRequest .. | .replySendStart
  | .noticeSendStart | .frameSent | .restartTakesEffect | .saveComplete .. | .encoderStep .. | .indexPulse
  | .speedWindowComplete | .stepOffDwellElapsed | .driveOkChange .. | .syncRunLimit | .clearOutComplete
  | .shutterFirstReading .. | .shutterInputChange .. | .slowDrop .. | .slowFinal .. | .raiseTimeout ..
  | .obstructionResume .. | .obstructedRetry .. | .fireLineReadingChange .. | .startupReadTimeout ..
  | .escalationTimeout | .evacGroupDue | .pollReplyEnd .. | .pollReplyTimeout | .callEscalationTimeout ..
  | .localAcknowledge .. | .annunciatorGroupEnd .. | .annunciatorGroupDue .. | .chimeEnd | .phraseEnd | .gapEnd
  | .repeatTimeExpiry .. | .alertRepeatTimeout | .evacRepeatTimeout | .storeClockTick | .clearingLimitTimeout
  | .watchmanKeyChange .. | .keyHoldComplete | .openingLimitTimeout | .serviceLineByteArrives ..
  | .firstPollAfterRestart => none

/-- The commands the hardware can be given. -/
def Instr.wellFormed (i : Instr) : Bool :=
  match i.request? with
  | some (_, r) => r.wellFormed
  | none => match i with
    | .frameComplete bytes => !bytes.isEmpty
    | .badKindRequest _ kind => (payloadReader kind.toNat).isNone
    | .pollReplyEnd bytes _ => !bytes.isEmpty
    | _ => true

end Sys2Proof
end

