-- ==== Sys2Proof/Machine/Link.lean ====
section
/-! DEFINITION. The Service Link (chapter 10): the receiver, the two receive places, the taking of a request with the link's
own checks, and the transmitter. -/

namespace Sys2Proof.Machine

/-- Store the Service Link. -/
def setLink (l : Link) (s : State) : State := { s with link := l }

/-! ### Taking a request (R174, R175) -/

/-- A reply becomes ready (R175): KIND with 0x80 added, an unknown KIND with its top bit set kept as it is. -/
def pushReply (h : Held) (payload : List Byte) (answers : ReplyFor) (s : State) : State :=
  setLink { s.link with ready := s.link.ready ++ [⟨h.tag, h.kind ||| 0x80#8, payload, answers⟩] } s

/-- Carry out a request that passed checks 1 and 2, with check 3 of R175 first. -/
def carryOut (h : Held) (r : Request) (s : State) : State :=
  if s.unconfigured && !servedUnconfigured r.kind then pushReply h (Result.unconfigured.with []) .serving s
  else match serve r s with
    | (.reply payload, s) => pushReply h payload .serving s
    | (.owed, s) => setLink { s.link with serving := none, owedSave := some h.tag } s
    | (.restart, s) => pushReply h (Result.ok.with []) .restart s

/-- A request enters the serving place and is taken (R174, R175). -/
def takeRequest (h : Held) (s : State) : State :=
  let s := setLink { s.link with serving := some h } s
  match h.body with
  | .unknownKind =>
    pushReply h (Result.badKind.with []) .serving
      (setLink { s.link with kindRefusals := countUp s.link.kindRefusals } s)
  | .badLength => pushReply h (Result.badLength.with []) .serving s
  | .request r => carryOut h r s

/-- A good frame reaches the receive places (R174). -/
def arrive (h : Held) (s : State) : State :=
  match s.link.serving, s.link.holding with
  | none, _ => takeRequest h s
  | some _, none => setLink { s.link with holding := some h } s
  | some _, some _ => setLink { s.link with overrunDiscards := countUp s.link.overrunDiscards } s

/-- The serving place is freed, and a request in the holding place moves into it and is taken (R174). -/
def freeServing (s : State) : State :=
  match s.link.holding with
  | none => setLink { s.link with serving := none } s
  | some h => takeRequest h (setLink { s.link with serving := none, holding := none } s)

/-- The body of a request received whole as a good frame: a payload no frame of its kind can carry is a bad length. -/
def requestBody (r : Request) : Body := if r.wellFormed then .request r else .badLength

/-- A request received whole as a good frame under its tag. -/
def receiveRequest (tag : Byte) (r : Request) (s : State) : State :=
  arrive ⟨tag, r.kindByte, requestBody r⟩ s

/-! ### The receiver (R173) -/

/-- The partial frame is discarded, the receiver hunts, and the gap discards rise (R173). -/
def gapDiscard (s : State) : State :=
  setLink { s.link with partialFrame := none, gapDiscards := countUp s.link.gapDiscards } s

/-- The LEN of a frame whose bytes from LEN on are given. -/
def frameLen (bytes : List Byte) : Nat := (bytes.headD 0#8).toNat

/-- A frame completes at its last CRC byte (R173): its bytes from LEN to the second CRC byte. -/
def completeFrame (bytes : List Byte) (s : State) : State :=
  let s := setLink { s.link with partialFrame := none } s
  let core := bytes.take (frameLen bytes + 3)
  if bytes16 (crc16 core) = bytes.drop (frameLen bytes + 3) then
    match core with
    | _ :: kind :: tag :: payload => arrive ⟨tag, kind, bodyOf kind payload⟩ s
    | _ => s
  else setLink { s.link with crcDiscards := countUp s.link.crcDiscards } s

/-- A byte on the service line (R173). Whether a 0xA5 that lacks its stop bit starts a frame is free (log entry 8). -/
def receiveByte (b : Byte) (stopBit : Bool) (s : State) : State :=
  match s.link.partialFrame with
  | none =>
    if b = 0xA5#8 && (stopBit || Config.startWithoutStopBit) then
      setLink { s.link with partialFrame := some [], gapMs := 0 } s
    else s
  | some bytes =>
    let bytes := bytes ++ [b]
    if !stopBit || 200 < frameLen bytes then gapDiscard s
    else if bytes.length = frameLen bytes + 5 then completeFrame bytes s
    else setLink { s.link with partialFrame := some bytes, gapMs := 0 } s

/-- Bytes on the service line, each with its stop bit. -/
def receiveBytes (bytes : List Byte) (s : State) : State := bytes.foldl (fun s b => receiveByte b true s) s

/-- The gap after a byte of a partial frame has passed 20 ms (R173). -/
def receiveGap (s : State) : State := if s.link.partialFrame.isSome then gapDiscard s else s

/-! ### The transmitter (R176, R178) -/

/-- The transmitter, idle, begins the reply that became ready first (R176). -/
def beginReply (s : State) : State :=
  match s.link.sending, s.link.ready with
  | none, r :: rest => setLink { s.link with sending := some (.reply r), ready := rest } s
  | _, _ => s

/-- A notice's payload (section 10.8): code, raise count, data. -/
def noticePayload (code : Nat) (c : Notice) : List Byte :=
  match c.latched with
  | some l => u8 code ++ u8 l.raises ++ l.data
  | none => u8 code ++ u8 0

/-- The arm flag of a condition clears as its notice begins (R178). -/
def disarm (code : Nat) (l : Link) : Link :=
  { l with notices := l.notices.modify code fun c => { c with armed := false } }

/-- The transmitter, idle with no reply ready, begins the notice of the highest-priority condition that is due (R176,
R178). -/
def beginNotice (s : State) : State :=
  match s.link.sending, s.link.ready, s.link.dueNotice with
  | none, [], some code =>
    setLink { disarm code s.link with sending := some (.notice (noticePayload code (s.notice code))) } s
  | _, _, _ => s

/-- The bytes on the line of the frame being sent (section 10.8): a notice has KIND 0x7F and TAG 0. -/
def Sending.bytes : Sending → List Byte
  | .reply r => frameBytes r.kind r.tag r.payload
  | .notice payload => frameBytes 0x7F#8 0#8 payload

end Sys2Proof.Machine
end

