-- ==== Sys2Proof/Machine/Resets.lean ====
section
/-! DEFINITION. The three kinds of reset, the leaving of UNCONFIGURED by a completed save, and the ends of frames sent. -/

namespace Sys2Proof.Machine

/-! ### Power-on and pin reset -/

/-- The Commissioning Store as a reset finds it: a save in progress is abandoned, and a bank may have lost its image
(R13, R14). -/
def banksAfter (bank0Lost bank1Lost : Bool) (s : State) : State :=
  { s with store := { s.store with
    bank0 := if bank0Lost then none else s.store.bank0
    bank1 := if bank1Lost then none else s.store.bank1 } }

/-- The Store Sequencer after a reset, before its start-up change (R172). -/
def Day.atReset (clock : Option Nat) (schedule : Schedule) (state : StoreState) : Day :=
  { clock := clock, schedule := schedule, state := state, last := ⟨none, .startUp, clock⟩, posted := [],
    wakeOpenNow := false, wakeTime := false, wakeKey := false, key := false, keyHold := 0, clearingLeft := none,
    openingLeft := none, forced := false }

/-- STORE_STATE with cause START_UP and the previous state absent (R172). -/
def raiseStartUp (s : State) : State :=
  raise .storeState (u8 s.day.state.ctorIdx ++ [0xFF#8] ++ u8 StoreCause.startUp.ctorIdx ++ opt24 s.day.clock ++
    yesNo false) s

/-- The store state after an image load: STANDBY, or UNCONFIGURED when no good image is found and the lock is clear
(R14). -/
def stateAfterLoad (lock : Bool) (s : State) : StoreState :=
  if !lock && s.store.newest?.isNone then .unconfigured else .standby

/-- Every block right after a power-on or pin reset, with what the reset keeps given: the clock, the fail-safe and the
fire state with its entry record (R14, R40, R54, R58, R77, R89, R112, R126, R150, R172, R183). -/
def atReset (lock : Bool) (clock : Option Nat) (failSafe : Bool) (fire : FireState) (entry : Option FireEntry)
    (s : State) : State :=
  { store := (loadImage lock s).1
    chain := Chain.start
    board := Board.start
    shutters := { Shutters.start with failSafe := failSafe }
    fire := { Fire.start with state := fire, entry := entry }
    intake := Intake.start
    calls := Calls.start
    announcer := Announcer.start
    day := Day.atReset clock (loadImage lock s).2 (stateAfterLoad lock s)
    link := Link.start
    choices := s.choices
    pending := s.pending }

/-- A power-on reset (R14, R172). -/
def powerOn (bank0Lost bank1Lost : Bool) (s : State) : State :=
  firstPoll (raiseStartUp (atReset false none false .normal none (banksAfter bank0Lost bank1Lost s)))

/-- A pin reset (R14, R89, R152, R172): the lock and the clock are kept, and the fire state is held. When it leads to
UNCONFIGURED the fire state goes to NORMAL, and whether a fail-safe release held before it is still held is free (log
entry 7). -/
def pinReset (bank0Lost bank1Lost : Bool) (s : State) : State :=
  let s := banksAfter bank0Lost bank1Lost s
  let unconfigured : Bool := stateAfterLoad s.store.lock s = .unconfigured
  let failSafe := unconfigured && s.shutters.failSafe && Config.failSafeThroughPinReset
  let s := raiseStartUp (atReset s.store.lock s.day.clock failSafe s.fire.state s.fire.entry s)
  let s := if unconfigured && s.fire.state != .normal then changeFire .normal .startUp s else s
  firstPoll s

/-! ### The first debounced reading of the shutter inputs (R58) -/

/-- The inputs of the 32 positions from one bit for each. -/
def inputsOf (top bottom clear edge : BitVec 32) : List Inputs :=
  (List.range 32).map fun n => ⟨top.getLsbD n, bottom.getLsbD n, clear.getLsbD n, edge.getLsbD n⟩

/-- The store's night orders that were given while the shutters had no state yet reach them as they take their states
(R58, R76, R162, R170, log entry 16). -/
def standingOrders (s : State) : State :=
  match s.day.state with
  | .shutting => nightCloseOrder s
  | .shut => nightCloseOrder s
  | .waking => nightCloseOrder s
  | .opening => morningRaise s
  | _ => s

/-- The first debounced reading of the inputs, 30 ms after a reset (R54, R58). -/
def firstReading (top bottom clear edge : BitVec 32) (s : State) : State :=
  if s.shutters.inputsRead then s
  else
    let s := { s with shutters := { s.shutters with inputs := inputsOf top bottom clear edge, inputsRead := true } }
    settle (if s.unconfigured then s else standingOrders (statesFromLimits s))

/-! ### Leaving UNCONFIGURED (R17) -/

/-- Every block but the Commissioning Store, the clock and the service link as after a pin reset (R17), the last-fault
records made empty with the rest (R82, log entry 24). The inputs, still scanned, and the readings of the lines, still
supervised, stand as they are, and so do the fire state and its entry record until they are set from the lines. -/
def blocksAfresh (s : State) : State :=
  { s with
    chain := Chain.start
    board := Board.start
    shutters := { s.shutters with failSafe := false, units := List.replicate 32 none, raiseQueue := [] }
    fire := { Fire.start with state := s.fire.state, entry := s.fire.entry, alertIn := s.fire.alertIn,
                              evacIn := s.fire.evacIn, startUp := s.fire.startUp }
    intake := Intake.start
    calls := Calls.start
    announcer := Announcer.start
    day := { s.day with posted := [], wakeOpenNow := false, wakeTime := false, wakeKey := false, key := false,
                        keyHold := 0, clearingLeft := none, openingLeft := none, forced := false } }

/-- The store leaves UNCONFIGURED for STANDBY (R17, R58, R91, R94). -/
def leaveUnconfigured (s : State) : State :=
  let s := changeStore .standby .save (blocksAfresh s)
  let s := if s.shutters.inputsRead then statesFromLimits s else s
  let s := if s.fire.startUp then s else setFromLines s
  settle (firstPoll s)

/-- The owed save reply becomes ready with its result (R13, R174). -/
def answerSave (good : Bool) (s : State) : State :=
  match s.link.owedSave with
  | none => s
  | some tag =>
    pushReply ⟨tag, Request.saveSettings.kindByte, .request .saveSettings⟩
      ((if good then Result.ok else Result.busy).with []) .owedSave (setLink { s.link with owedSave := none } s)

/-- A save completes (R13): `good` when a read-back, the first or the second, checked. -/
def saveComplete (good : Bool) (s : State) : State :=
  match s.store.saving with
  | none => s
  | some job =>
    let s := answerSave good { s with store := s.store.endSave good job }
    if good && s.unconfigured then leaveUnconfigured s else s

/-! ### RESTART (R182) -/

/-- The announcement sequencer after a RESTART: the fire scripts made due by the fire state as it stands (R151). -/
def restartAnnouncer (s : State) : Announcer :=
  match s.fire.state with
  | .normal => Announcer.start
  | .alert => { Announcer.start with dueA := s.store.tables.scriptA.isSome
                                     timerA := some (s.store.timing.alertRepeat * 1000) }
  | .evacuate => { Announcer.start with dueE := s.store.tables.scriptE.isSome }

/-- A restart takes effect (R41, R112, R126, R151, R182). A poll in progress is abandoned, and the first poll then waits
for the line to fall quiet. -/
def restart (s : State) : State :=
  let s := stopChain { s with link := Link.start }
  settle (firstPoll { s with
    intake := { Intake.start with quietWait := s.intake.poll.isSome || s.intake.quietWait }
    calls := Calls.start
    announcer := restartAnnouncer s })

/-- The frame being sent is the reply to a RESTART (R182). -/
def Link.restartSending (l : Link) : Bool :=
  match l.sending with
  | some (.reply r) => r.answers = .restart
  | _ => false

/-- The restart takes effect at the end of its reply's last byte (R182); with that reply not being sent there is no such
moment. -/
def restartTakesEffect (s : State) : State := if s.link.restartSending then restart s else s

/-- The transmitter ends a frame (R174, R176, R182): the serving place is freed at the end of its reply, and a RESTART
takes effect at the end of its own. -/
def frameSent (s : State) : State :=
  match s.link.sending with
  | none => s
  | some (.notice _) => setLink { s.link with sending := none } s
  | some (.reply r) =>
    let s := setLink { s.link with sending := none } s
    match r.answers with
    | .serving => freeServing s
    | .owedSave => s
    | .restart => restart s

end Sys2Proof.Machine
end

