-- ==== Sys2Proof/Machine/Events.lean ====
section
/-! DEFINITION. The events of the field side and of elapsed time, each with all that follows at the same moment. An event
whose timer or state is not there when it is taken has no effect (log entry 3). -/

namespace Sys2Proof.Machine

/-! ### Chain -/

/-- The rest time has reached the step-off dwell (R24, R48, R69). -/
def dwellElapsed (s : State) : State :=
  if s.chain.moving then s
  else settle { s with chain := { s.chain with restMs := max s.chain.restMs (s.store.timing.dwell * 1000) } }

/-- DRIVE_OK is taken high or low (R26). -/
def driveOkChange (high : Bool) (s : State) : State :=
  if s.chain.driveOk = high then s
  else
    let s := { s with chain := { s.chain with driveOk := high } }
    settle (if high then s else haltIfRunning .drive s)

/-- The sync-run count reaches its limit (R28): asserted by the command, whatever the count held (log entry 3). -/
def syncRunLimit (s : State) : State :=
  match s.chain.state with
  | .syncRun _ => settle (haltNow .noIndex none s)
  | _ => s

/-- The clear-out count reaches L (R30): asserted by the command, whatever the count held (log entry 3). -/
def clearOutComplete (s : State) : State :=
  match s.chain.state with
  | .clearOut _ => settle (setChain .parking s)
  | _ => s

/-! ### Shutters -/

/-- One input line of a position with a new level. -/
def Inputs.with (line : InputLine) (active : Bool) (i : Inputs) : Inputs :=
  match line with
  | .top => { i with top := active }
  | .bottom => { i with bottom := active }
  | .clear => { i with clear := active }
  | .edge => { i with edge := active }

/-- A shutter's state machine looks at its inputs (R55); none runs in UNCONFIGURED or at an uncommissioned position. -/
def reactTo (n : Nat) (s : State) : State :=
  match s.record n, s.unit n with
  | some r, some sh => putUnit n (sh.react r (s.inputs n)) s
  | _, _ => s

/-- An input of a position changes, after the first debounced reading (R55, R58). -/
def inputChange (n : Nat) (line : InputLine) (active : Bool) (s : State) : State :=
  let i := (s.inputs n).with line active
  if !s.shutters.inputsRead || i = s.inputs n then s
  else settle (reactTo n { s with shutters := { s.shutters with inputs := s.shutters.inputs.set n i } })

/-- Change a shutter's running state when it is in a state the event is about. -/
def whenUnit (n : Nat) (change : ShutterRec → Shutter → Option Shutter) (s : State) : State :=
  match s.record n, s.unit n with
  | some r, some sh =>
    match change r sh with
    | some sh' => settle (putUnit n sh' s)
    | none => s
  | _, _ => s

/-- The phase limit of DROPPING runs out (R60, R61). -/
def slowDrop (n : Nat) (s : State) : State :=
  whenUnit n (fun _ sh => match sh.state with
    | .dropping _ => some { sh with state := .fault .slowDrop 0 }
    | _ => none) s

/-- The phase limit of FINAL runs out (R63). -/
def slowFinal (n : Nat) (s : State) : State :=
  whenUnit n (fun _ sh => match sh.state with
    | .final _ => some { sh with state := .fault .slowFinal 0 }
    | _ => none) s

/-- The raise limit runs out (R73). -/
def raiseTimeout (n : Nat) (s : State) : State :=
  whenUnit n (fun _ sh => match sh.state with
    | .raising _ => some { sh with state := .fault .raiseTimeout 0 }
    | _ => none) s

/-- The edge-clear time reaches 3 s (R66). -/
def obstructionResume (n : Nat) (s : State) : State :=
  whenUnit n (fun r sh => match sh.state with
    | .paused .obstruction .dropping _ => if (s.inputs n).edge then none else some (sh.drop r (s.inputs n))
    | .paused .obstruction .final _ => if (s.inputs n).edge then none else some { sh with state := .held false }
    | _ => none) s

/-- The retry time reaches 30 s (R67). -/
def obstructedRetry (n : Nat) (s : State) : State :=
  whenUnit n (fun r sh => match sh.state with
    | .fault .obstructed _ =>
      if s.fire.state = .evacuate && s.retryOrdered n && !(s.inputs n).edge then
        some (Shutter.drop r (s.inputs n) { sh with obstructions := 0 })
      else none
    | _ => none) s

/-! ### Call loop -/

/-- A poll ends when the line has been quiet for 3 ms after reply bytes (R96); bytes heard between polls change
nothing. -/
def pollReplyEnd (bytes : List Byte) (stopBits : Bool) (s : State) : State :=
  match s.intake.poll, bytes with
  | some p, _ :: _ => pollEnds p.station (outcomeOf p.station bytes stopBits) s
  | _, _ => s

/-- No reply byte has begun within 15 ms (R96). -/
def pollReplyTimeout (s : State) : State :=
  match s.intake.poll with
  | some p => pollEnds p.station .missing s
  | none => s

/-- The line has been quiet for 3 ms after a RESTART (R112). -/
def lineQuiet (s : State) : State :=
  if s.intake.quietWait then firstPoll (setIntake { s.intake with quietWait := false } s) else s

/-! ### Announcements -/

/-- The gap runs out (R135). -/
def gapEnd (s : State) : State :=
  match s.announcer.player with
  | .gap _ => settle (setPlayer .idle s)
  | _ => s

/-- The repeat time of a slot runs out (R136). -/
def repeatExpires (n : Nat) (s : State) : State :=
  match s.slot n with
  | .repeatWait post run _ => settle (setSlot n (.pending post run none) s)
  | _ => s

/-- The timer of script A runs out in ALERT (R139). -/
def alertRepeat (s : State) : State :=
  if s.fire.state = .alert && s.announcer.timerA.isSome then
    settle { s with announcer := { s.announcer with
      dueA := s.store.tables.scriptA.isSome, timerA := some (s.store.timing.alertRepeat * 1000) } }
  else s

/-- The timer of script E runs out in EVACUATE (R142). -/
def evacRepeat (s : State) : State :=
  if s.fire.state = .evacuate && s.announcer.timerE.isSome then
    settle { s with announcer := { s.announcer with dueE := s.store.tables.scriptE.isSome, timerE := none } }
  else s

/-! ### The store day -/

/-- The clearing limit runs out (R161). -/
def clearingLimit (s : State) : State :=
  match s.day.state with
  | .clearing => settle (enterShutting .clearingLimit true s)
  | _ => s

/-- The opening limit runs out (R170). -/
def openingLimit (s : State) : State :=
  match s.day.state with
  | .opening => settle (enterTrading .openingLimit s)
  | _ => s

/-- The watchman key is taken active or inactive (R164, R165). Each change to active is an occurrence, the first after a
reset too: the model's reading (log entry 43). -/
def keyChange (active : Bool) (s : State) : State :=
  if s.day.key = active then s
  else settle { s with day := { s.day with
    key := active, keyHold := 0, wakeKey := s.day.wakeKey || (active && s.day.latches) } }

/-- The key-hold time reaches 2,000 ms (R165, R167). -/
def keyHeld (s : State) : State :=
  if s.day.key then settle { s with day := { s.day with keyHold := 2000 } } else s

end Sys2Proof.Machine
end

