-- ==== Sys2Proof/Machine/AnnounceCommands.lean ====
section
/-! DEFINITION. The meanings of the commands of the announcements, one for each row of the table. -/

namespace Sys2Proof.Machine

/-- POST_ANNOUNCEMENT (R128), received whole under its tag: Posts a script into a FREE host slot. -/
def execPostAnnouncement (tag : Byte) (slot : Byte) (post : PostFields) (s : State) :
    Host.Outcome State Fault Refusal :=
  .next (receiveRequest tag (.postAnnouncement slot post) s)

/-- CANCEL_ANNOUNCEMENT (R137), received whole under its tag: Cancels the announcement in a host slot or slot C. -/
def execCancelAnnouncement (tag : Byte) (slot : Byte) (s : State) : Host.Outcome State Fault Refusal :=
  .next (receiveRequest tag (.cancelAnnouncement slot) s)

/-- ANNOUNCE_STATUS (R149), received whole under its tag: Returns the Announcement Sequencer state. -/
def execAnnounceStatus (tag : Byte) (s : State) : Host.Outcome State Fault Refusal :=
  .next (receiveRequest tag .announceStatus s)

/-- READ_LOG (R147), received whole under its tag: Returns records from the head of the announcement log. -/
def execReadLog (tag : Byte) (count : Byte) (s : State) : Host.Outcome State Fault Refusal :=
  .next (receiveRequest tag (.readLog count) s)

/-- ACK_LOG (R148), received whole under its tag: Removes log records through a named index. -/
def execAckLog (tag : Byte) (index : Byte) (s : State) : Host.Outcome State Fault Refusal :=
  .next (receiveRequest tag (.ackLog index) s)

/-- CHIME_END (R133): The chime of a run ends and the first phrase begins, or an end request takes effect. -/
def execChimeEnd (s : State) : Host.Outcome State Fault Refusal :=
  .next (settle (Machine.chimeEnd s))

/-- PHRASE_END (R133): A phrase ends; the next phrase begins or the run ends. -/
def execPhraseEnd (s : State) : Host.Outcome State Fault Refusal :=
  .next (settle (Machine.phraseEnd s))

/-- GAP_END (R135): The post-announcement gap runs out, the player goes IDLE and selection is made. -/
def execGapEnd (s : State) : Host.Outcome State Fault Refusal :=
  .next (Machine.gapEnd s)

/-- REPEAT_TIME_EXPIRY (R136): A slot's repeat time runs out, and it becomes PENDING. -/
def execRepeatTimeExpiry (slot : Fin 8) (s : State) : Host.Outcome State Fault Refusal :=
  .next (repeatExpires slot s)

/-- ALERT_REPEAT_TIMEOUT (R139): The alert repeat timer runs out and script A is made due again. -/
def execAlertRepeatTimeout (s : State) : Host.Outcome State Fault Refusal :=
  .next (alertRepeat s)

/-- EVAC_REPEAT_TIMEOUT (R142): The evacuation repeat timer runs out and script E is made due again. -/
def execEvacRepeatTimeout (s : State) : Host.Outcome State Fault Refusal :=
  .next (evacRepeat s)

end Sys2Proof.Machine
end

