-- ==== Sys2Proof/Machine/CallCommands.lean ====
section
/-! DEFINITION. The meanings of the commands of the staff calls and their annunciators, one for each row of the table. -/

namespace Sys2Proof.Machine

/-- READ_CALLS (R125), received whole under its tag: Returns one queue and its annunciator. -/
def execReadCalls (tag : Byte) (queue : Byte) (s : State) : Host.Outcome State Fault Refusal :=
  .next (receiveRequest tag (.readCalls queue) s)

/-- ACK_CALLS (R116), received whole under its tag: Removes records from the head through a named slot. -/
def execAckCalls (tag : Byte) (queue slot : Byte) (expected : Option Byte) (s : State) :
    Host.Outcome State Fault Refusal :=
  .next (receiveRequest tag (.ackCalls queue slot expected) s)

/-- LOOP_STATUS (R111), received whole under its tag: Returns the Call Intake state for one quarter of the station
table. -/
def execLoopStatus (tag : Byte) (quarter : Option Byte) (s : State) : Host.Outcome State Fault Refusal :=
  .next (receiveRequest tag (.loopStatus quarter) s)

/-- POLL_REPLY_END (R96): A poll ends when the line is quiet 3 ms after reply bytes, and its good or corrupt outcome
is dealt with. -/
def execPollReplyEnd (bytes : List Byte) (stopBits : Bool) (s : State) : Host.Outcome State Fault Refusal :=
  .next (Machine.pollReplyEnd bytes stopBits s)

/-- POLL_REPLY_TIMEOUT (R96): No reply byte begins within 15 ms, and the poll ends missing. -/
def execPollReplyTimeout (s : State) : Host.Outcome State Fault Refusal :=
  .next (Machine.pollReplyTimeout s)

/-- CALL_ESCALATION_TIMEOUT (R119): A queue's escalation timer runs out, and its head is copied to the other queue. -/
def execCallEscalationTimeout (queue : QueueName) (s : State) : Host.Outcome State Fault Refusal :=
  .next (settle (escalate queue s))

/-- LOCAL_ACKNOWLEDGE (R117): The annunciator acknowledge input is taken active and removes the head record. -/
def execLocalAcknowledge (queue : QueueName) (s : State) : Host.Outcome State Fault Refusal :=
  .next (settle (Machine.localAcknowledge queue s))

/-- ANNUNCIATOR_GROUP_END (R120): A strike group ends, and the annunciator enters GROUP_GAP, PATTERN_WAIT or SILENT.
-/
def execAnnunciatorGroupEnd (queue : QueueName) (s : State) : Host.Outcome State Fault Refusal :=
  .next (settle (groupEnd queue s))

/-- ANNUNCIATOR_GROUP_DUE (R121): A gap or pattern wait runs out, and the next group is tested for hush and struck. -/
def execAnnunciatorGroupDue (queue : QueueName) (s : State) : Host.Outcome State Fault Refusal :=
  .next (settle (groupDue queue s))

/-- FIRST_POLL_AFTER_RESTART (R112): After a RESTART has abandoned a poll in progress, the first poll begins once the
call loop has been quiet for 3 ms. -/
def execFirstPollAfterRestart (s : State) : Host.Outcome State Fault Refusal :=
  .next (lineQuiet s)

end Sys2Proof.Machine
end

