-- ==== Sys2Proof/Machine/ChainCommands.lean ====
section
/-! DEFINITION. The meanings of the commands of the paternoster chain and its openings, one for each row of the table. -/

namespace Sys2Proof.Machine

/-- CHAIN_START (R27), received whole under its tag: Starts the chain in SYNC_RUN or RUNNING after its checks. -/
def execChainStart (tag : Byte) (s : State) : Host.Outcome State Fault Refusal :=
  .next (receiveRequest tag .chainStart s)

/-- CHAIN_STOP (R33), received whole under its tag: Takes a running chain to STOPPING with plain intent. -/
def execChainStop (tag : Byte) (s : State) : Host.Outcome State Fault Refusal :=
  .next (receiveRequest tag .chainStop s)

/-- CHAIN_PARK (R32), received whole under its tag: Takes a RUNNING chain to PARKING. -/
def execChainPark (tag : Byte) (s : State) : Host.Outcome State Fault Refusal :=
  .next (receiveRequest tag .chainPark s)

/-- CHAIN_RESET (R38), received whole under its tag: Returns a HALTED chain to STOPPED when its conditions hold. -/
def execChainReset (tag : Byte) (s : State) : Host.Outcome State Fault Refusal :=
  .next (receiveRequest tag .chainReset s)

/-- CHAIN_STATUS (R39), received whole under its tag: Returns the Chain Tracker state. -/
def execChainStatus (tag : Byte) (s : State) : Host.Outcome State Fault Refusal :=
  .next (receiveRequest tag .chainStatus s)

/-- OPENING_QUERY (R53), received whole under its tag: Returns the clearance picture for one opening shutter. -/
def execOpeningQuery (tag : Byte) (index : Byte) (s : State) : Host.Outcome State Fault Refusal :=
  .next (receiveRequest tag (.openingQuery index) s)

/-- ENCODER_STEP (R18): An encoder step moves p by one modulo L and is counted into the windows and the working
counts. -/
def execEncoderStep (forward : Bool) (s : State) : Host.Outcome State Fault Refusal :=
  .next (settle (Machine.encoderStep forward s))

/-- INDEX_PULSE (R20): An index check resynchronises p, records the slip, or finds a slip fault. -/
def execIndexPulse (s : State) : Host.Outcome State Fault Refusal :=
  .next (settle (indexCheck s))

/-- SPEED_WINDOW_COMPLETE (R22): A 250 ms speed window completes, and the speed, the moving condition and the rest
change. -/
def execSpeedWindowComplete (s : State) : Host.Outcome State Fault Refusal :=
  .next (settle (windowComplete s))

/-- STEP_OFF_DWELL_ELAPSED (R69): The rest time reaches the step-off dwell, so shutters paused for conflict resume and
held shutters are clear by dwell. -/
def execStepOffDwellElapsed (s : State) : Host.Outcome State Fault Refusal :=
  .next (dwellElapsed s)

/-- DRIVE_OK_CHANGE (R26): DRIVE_OK is taken high or low after 20 ms. -/
def execDriveOkChange (high : Bool) (s : State) : Host.Outcome State Fault Refusal :=
  .next (Machine.driveOkChange high s)

/-- SYNC_RUN_LIMIT (R28): The sync-run count reaches 1.25 × L and the chain halts with cause NO_INDEX. -/
def execSyncRunLimit (s : State) : Host.Outcome State Fault Refusal :=
  .next (Machine.syncRunLimit s)

/-- CLEAR_OUT_COMPLETE (R30): The clear-out count reaches L and the chain goes to PARKING. -/
def execClearOutComplete (s : State) : Host.Outcome State Fault Refusal :=
  .next (Machine.clearOutComplete s)

end Sys2Proof.Machine
end

