-- ==== Sys2Proof/Machine/CommissionCommands.lean ====
section
/-! DEFINITION. The meanings of the commands of commissioning, one for each row of the table. -/

namespace Sys2Proof.Machine

/-- WRITE_ZONE (R2), received whole under its tag: Writes one zone entry, or the site entry for index 32. -/
def execWriteZone (tag : Byte) (w : ZoneWrite) (s : State) : Host.Outcome State Fault Refusal :=
  .next (receiveRequest tag (.writeZone w) s)

/-- READ_ZONE (R1), received whole under its tag: Returns one zone entry or the site entry. -/
def execReadZone (tag : Byte) (zone : Byte) (s : State) : Host.Outcome State Fault Refusal :=
  .next (receiveRequest tag (.readZone zone) s)

/-- WRITE_SHUTTER (R4), received whole under its tag: Writes or deletes one shutter record. -/
def execWriteShutter (tag : Byte) (index : Byte) (w : ShutterWrite) (s : State) : Host.Outcome State Fault Refusal :=
  .next (receiveRequest tag (.writeShutter index w) s)

/-- READ_SHUTTER (R1), received whole under its tag: Returns one shutter record. -/
def execReadShutter (tag : Byte) (index : Byte) (s : State) : Host.Outcome State Fault Refusal :=
  .next (receiveRequest tag (.readShutter index) s)

/-- WRITE_CHAIN (R5), received whole under its tag: Replaces the chain geometry, resetting p to 0, unsynced. -/
def execWriteChain (tag : Byte) (g : ChainFields) (s : State) : Host.Outcome State Fault Refusal :=
  .next (receiveRequest tag (.writeChain g) s)

/-- READ_CHAIN (R1), received whole under its tag: Returns the chain geometry and all eight landing entries. -/
def execReadChain (tag : Byte) (s : State) : Host.Outcome State Fault Refusal :=
  .next (receiveRequest tag .readChain s)

/-- WRITE_LANDING (R6), received whole under its tag: Writes one landing entry. -/
def execWriteLanding (tag : Byte) (index present : Byte) (up dn : BitVec 16) (s : State) :
    Host.Outcome State Fault Refusal :=
  .next (receiveRequest tag (.writeLanding index present up dn) s)

/-- WRITE_FILTER (R7), received whole under its tag: Writes one filter entry. -/
def execWriteFilter (tag : Byte) (index enabled kind first second action night : Byte) (s : State) :
    Host.Outcome State Fault Refusal :=
  .next (receiveRequest tag (.writeFilter index enabled kind first second action night) s)

/-- READ_FILTER (R1), received whole under its tag: Returns one filter entry. -/
def execReadFilter (tag : Byte) (index : Byte) (s : State) : Host.Outcome State Fault Refusal :=
  .next (receiveRequest tag (.readFilter index) s)

/-- WRITE_PHRASE (R8), received whole under its tag: Writes one phrase directory entry. -/
def execWritePhrase (tag : Byte) (index : Byte) (start length : BitVec 24) (s : State) :
    Host.Outcome State Fault Refusal :=
  .next (receiveRequest tag (.writePhrase index start length) s)

/-- WRITE_FIRE_SCRIPT (R9), received whole under its tag: Writes fire script A or E. -/
def execWriteFireScript (tag : Byte) (name : Byte) (script : ScriptFields) (s : State) :
    Host.Outcome State Fault Refusal :=
  .next (receiveRequest tag (.writeFireScript name script) s)

/-- WRITE_CLOSING_STEP (R10), received whole under its tag: Writes or deletes one closing step. -/
def execWriteClosingStep (tag : Byte) (index : Byte) (w : ClosingWrite) (s : State) :
    Host.Outcome State Fault Refusal :=
  .next (receiveRequest tag (.writeClosingStep index w) s)

/-- WRITE_TIMINGS (R11), received whole under its tag: Writes the whole timing set, with clamping. -/
def execWriteTimings (tag : Byte) (t : TimingFields) (s : State) : Host.Outcome State Fault Refusal :=
  .next (receiveRequest tag (.writeTimings t) s)

/-- LOCK_COMMISSION (R12), received whole under its tag: Sets the commissioning lock. -/
def execLockCommission (tag : Byte) (s : State) : Host.Outcome State Fault Refusal :=
  .next (receiveRequest tag .lockCommission s)

/-- SAVE_SETTINGS (R13), received whole under its tag: Begins writing the settings image to the other bank, and the
reply is owed. -/
def execSaveSettings (tag : Byte) (s : State) : Host.Outcome State Fault Refusal :=
  .next (receiveRequest tag .saveSettings s)

/-- SAVE_COMPLETE (R13): The image write and read-back end; the owed reply is made ready, the unsaved-tables flag
clears, and the store may leave UNCONFIGURED. -/
def execSaveComplete (readBackGood : Bool) (s : State) : Host.Outcome State Fault Refusal :=
  .next (Machine.saveComplete readBackGood s)

end Sys2Proof.Machine
end

