-- ==== Sys2Proof/Machine/FireCommands.lean ====
section
/-! DEFINITION. The meanings of the commands of the fire stages, one for each row of the table. -/

namespace Sys2Proof.Machine

/-- FIRE_REPORT (R88), received whole under its tag: Sets the origin floor and orders that floor's shutters lowered.
-/
def execFireReport (tag : Byte) (floor : Byte) (s : State) : Host.Outcome State Fault Refusal :=
  .next (receiveRequest tag (.fireReport floor) s)

/-- FIRE_RESET (R90), received whole under its tag: Returns the fire state to NORMAL when both lines read NORMAL. -/
def execFireReset (tag : Byte) (s : State) : Host.Outcome State Fault Refusal :=
  .next (receiveRequest tag .fireReset s)

/-- FIRE_STATUS (R93), received whole under its tag: Returns the Fire Stage Unit state. -/
def execFireStatus (tag : Byte) (s : State) : Host.Outcome State Fault Refusal :=
  .next (receiveRequest tag .fireStatus s)

/-- FIRE_LINE_READING_CHANGE (R81): A fire line's taken reading changes after 500 ms in one band. -/
def execFireLineReadingChange (line : Line) (reading : Reading) (s : State) : Host.Outcome State Fault Refusal :=
  .next (settle (readingChange line reading s))

/-- STARTUP_READ_TIMEOUT (R89): A line unsettled 2,000 ms after reset is taken as OPEN_FAULT. -/
def execStartupReadTimeout (line : Line) (s : State) : Host.Outcome State Fault Refusal :=
  .next (settle (startupTimeout line s))

/-- ESCALATION_TIMEOUT (R86): The alert-to-evacuate timer runs out and the fire state goes to EVACUATE. -/
def execEscalationTimeout (s : State) : Host.Outcome State Fault Refusal :=
  .next (settle (fireEscalation s))

/-- EVAC_GROUP_DUE (R87): A close group falls due and its shutters outside STAIR zones are ordered lowered. -/
def execEvacGroupDue (s : State) : Host.Outcome State Fault Refusal :=
  .next (settle (groupDueOrder s))

end Sys2Proof.Machine
end

