-- ==== Sys2Proof/Machine/LinkCommands.lean ====
section
/-! DEFINITION. The meanings of the commands of the two hardware resets and the service link, one for each row of the table. -/

namespace Sys2Proof.Machine

/-- POWER_ON_RESET (R14): Power-on reset: the newest good image is loaded or the tables are emptied, and every block
starts in its reset state. -/
def execPowerOnReset (bank0Lost bank1Lost : Bool) (s : State) : Host.Outcome State Fault Refusal :=
  .next (powerOn bank0Lost bank1Lost s)

/-- PIN_RESET (R14): Reset pin: the image is reloaded as the lock allows, and the blocks restart while the store clock
and the held fire state are kept. -/
def execPinReset (bank0Lost bank1Lost : Bool) (s : State) : Host.Outcome State Fault Refusal :=
  .next (Machine.pinReset bank0Lost bank1Lost s)

/-- FRAME_COMPLETE (R173): A service-line frame completes at its last CRC byte; it is checked by CRC and placed in the
serving or holding place. -/
def execFrameComplete (bytes : List Byte) (s : State) : Host.Outcome State Fault Refusal :=
  .next (receiveBytes bytes s)

/-- RECEIVE_GAP_TIMEOUT (R173): More than 20 ms pass inside a partial frame, which is then discarded, and the receiver
returns to hunting. -/
def execReceiveGapTimeout (s : State) : Host.Outcome State Fault Refusal :=
  .next (receiveGap s)

/-- BAD_KIND_REQUEST (R175): A taken request of unknown KIND is answered BAD_KIND and the kind refusal count rises. -/
def execBadKindRequest (tag kind : Byte) (s : State) : Host.Outcome State Fault Refusal :=
  .next (arrive ⟨tag, kind, bodyOf kind []⟩ s)

/-- REPLY_SEND_START (R176): The transmitter begins sending the reply that became ready first. -/
def execReplySendStart (s : State) : Host.Outcome State Fault Refusal :=
  .next (beginReply s)

/-- NOTICE_SEND_START (R178): The transmitter begins the notice of the highest-priority latched and armed condition,
whose arm flag then clears. -/
def execNoticeSendStart (s : State) : Host.Outcome State Fault Refusal :=
  .next (beginNotice s)

/-- FRAME_SENT (R176): The last byte of a frame is sent; a finished reply frees the serving place and a held request
moves up and is taken. -/
def execFrameSent (s : State) : Host.Outcome State Fault Refusal :=
  .next (Machine.frameSent s)

/-- GET_STATUS (R181), received whole under its tag: Returns the summary of the part. -/
def execGetStatus (tag : Byte) (s : State) : Host.Outcome State Fault Refusal :=
  .next (receiveRequest tag .getStatus s)

/-- RESTART (R182), received whole under its tag: Asks for a restart without loss of the installation; its reply is
made ready and no further request is taken. -/
def execRestart (tag : Byte) (s : State) : Host.Outcome State Fault Refusal :=
  .next (receiveRequest tag .restart s)

/-- RESTART_TAKES_EFFECT (R182): At the end of the RESTART reply, each block restarts as its chapter gives, and the
link empties its places and conditions. -/
def execRestartTakesEffect (s : State) : Host.Outcome State Fault Refusal :=
  .next (Machine.restartTakesEffect s)

/-- ARM_NOTICES (R179), received whole under its tag: Sets the arm flags of the named conditions. -/
def execArmNotices (tag : Byte) (set : BitVec 16) (s : State) : Host.Outcome State Fault Refusal :=
  .next (receiveRequest tag (.armNotices set) s)

/-- CLEAR_LATCH (R180), received whole under its tag: Clears the named latched conditions, with the conflict latch
under R52. -/
def execClearLatch (tag : Byte) (set : BitVec 16) (s : State) : Host.Outcome State Fault Refusal :=
  .next (receiveRequest tag (.clearLatch set) s)

/-- SERVICE_LINE_BYTE_ARRIVES (R173): A byte arrives on the service line: while hunting, a 0xA5 starts a frame and any
other byte is discarded; while assembling, a byte without its stop bit or a LEN above 200 discards the partial frame
with a gap discard. -/
def execServiceLineByteArrives (byte : Byte) (stopBit : Bool) (s : State) : Host.Outcome State Fault Refusal :=
  .next (receiveByte byte stopBit s)

end Sys2Proof.Machine
end

