-- ==== Sys2Proof/Machine/ShutterCommands.lean ====
section
/-! DEFINITION. The meanings of the commands of the fire shutters, one for each row of the table. -/

namespace Sys2Proof.Machine

/-- SHUTTER_LOWER (R78), received whole under its tag: Gives one shutter a lower order. -/
def execShutterLower (tag : Byte) (index : Byte) (s : State) : Host.Outcome State Fault Refusal :=
  .next (receiveRequest tag (.shutterLower index) s)

/-- SHUTTER_RAISE (R78), received whole under its tag: Gives one shutter a raise order from the office, checked as R70
gives. -/
def execShutterRaise (tag : Byte) (index : Byte) (s : State) : Host.Outcome State Fault Refusal :=
  .next (receiveRequest tag (.shutterRaise index) s)

/-- SHUTTER_STATUS (R79), received whole under its tag: Returns one shutter position's state, inputs and outputs. -/
def execShutterStatus (tag : Byte) (index : Byte) (s : State) : Host.Outcome State Fault Refusal :=
  .next (receiveRequest tag (.shutterStatus index) s)

/-- SHUTTER_FIRST_READING (R58): The first debounced reading after a reset gives each commissioned shutter its state
from its limits. -/
def execShutterFirstReading (top bottom clear edge : BitVec 32) (s : State) : Host.Outcome State Fault Refusal :=
  .next (firstReading top bottom clear edge s)

/-- SHUTTER_INPUT_CHANGE (R55): A shutter input changes after three scans and moves the shutter's state machine. -/
def execShutterInputChange (position : Fin 32) (line : InputLine) (active : Bool) (s : State) :
    Host.Outcome State Fault Refusal :=
  .next (inputChange position line active s)

/-- SLOW_DROP (R60): The DROPPING phase limit runs out and the shutter faults SLOW_DROP. -/
def execSlowDrop (position : Fin 32) (s : State) : Host.Outcome State Fault Refusal :=
  .next (Machine.slowDrop position s)

/-- SLOW_FINAL (R63): The FINAL phase limit runs out and the shutter faults SLOW_FINAL. -/
def execSlowFinal (position : Fin 32) (s : State) : Host.Outcome State Fault Refusal :=
  .next (Machine.slowFinal position s)

/-- RAISE_TIMEOUT (R73): The raise limit runs out before TOP and the shutter faults RAISE_TIMEOUT. -/
def execRaiseTimeout (position : Fin 32) (s : State) : Host.Outcome State Fault Refusal :=
  .next (Machine.raiseTimeout position s)

/-- OBSTRUCTION_RESUME (R66): The edge-clear time reaches 3 s and the paused shutter resumes. -/
def execObstructionResume (position : Fin 32) (s : State) : Host.Outcome State Fault Refusal :=
  .next (Machine.obstructionResume position s)

/-- OBSTRUCTED_RETRY (R67): The retry time reaches 30 s during EVACUATE, and an OBSTRUCTED shutter drops again. -/
def execObstructedRetry (position : Fin 32) (s : State) : Host.Outcome State Fault Refusal :=
  .next (Machine.obstructedRetry position s)

end Sys2Proof.Machine
end

