-- ==== Sys2Proof/Machine/StoreCommands.lean ====
section
/-! DEFINITION. The meanings of the commands of the store day, one for each row of the table. -/

namespace Sys2Proof.Machine

/-- SET_TIME (R153), received whole under its tag: Sets the store clock and makes every test that depends on the
clock. -/
def execSetTime (tag : Byte) (time : BitVec 24) (s : State) : Host.Outcome State Fault Refusal :=
  .next (receiveRequest tag (.setTime time) s)

/-- SET_SCHEDULE (R154), received whole under its tag: Replaces the schedule whole and retests the close window and
the wake. -/
def execSetSchedule (tag : Byte) (opening closing : BitVec 24) (wakeOn planOn : Byte) (s : State) :
    Host.Outcome State Fault Refusal :=
  .next (receiveRequest tag (.setSchedule opening closing wakeOn planOn) s)

/-- OPEN_NOW (R168), received whole under its tag: Asks for the store to open: STANDBY goes to OPENING, or the
OPEN_NOW wake flag latches. -/
def execOpenNow (tag : Byte) (s : State) : Host.Outcome State Fault Refusal :=
  .next (receiveRequest tag .openNow s)

/-- CLOSE_NOW (R159), received whole under its tag: Posts the offset-0 step and takes the store to CLEARING. -/
def execCloseNow (tag : Byte) (s : State) : Host.Outcome State Fault Refusal :=
  .next (receiveRequest tag .closeNow s)

/-- SET_WAKE (R169), received whole under its tag: Sets the watchman key enable, optionally clears the wake flags, and
retests the wake. -/
def execSetWake (tag : Byte) (keyEnable clearFlags : Byte) (s : State) : Host.Outcome State Fault Refusal :=
  .next (receiveRequest tag (.setWake keyEnable clearFlags) s)

/-- STORE_CLOCK_TICK (R152): The store clock counts one second and every clock-driven test is made. -/
def execStoreClockTick (s : State) : Host.Outcome State Fault Refusal :=
  .next (settle (clockTick s))

/-- CLEARING_LIMIT_TIMEOUT (R161): The clearing limit runs out, and the store goes to SHUTTING with the clearing-
forced flag set. -/
def execClearingLimitTimeout (s : State) : Host.Outcome State Fault Refusal :=
  .next (clearingLimit s)

/-- WATCHMAN_KEY_CHANGE (R165): The watchman key is taken active or inactive after 50 ms. -/
def execWatchmanKeyChange (active : Bool) (s : State) : Host.Outcome State Fault Refusal :=
  .next (keyChange active s)

/-- KEY_HOLD_COMPLETE (R167): The key-hold time reaches 2,000 ms in WAKING, and the store goes to OPENING. -/
def execKeyHoldComplete (s : State) : Host.Outcome State Fault Refusal :=
  .next (keyHeld s)

/-- OPENING_LIMIT_TIMEOUT (R170): The opening limit runs out, and the store goes to TRADING. -/
def execOpeningLimitTimeout (s : State) : Host.Outcome State Fault Refusal :=
  .next (openingLimit s)

end Sys2Proof.Machine
end

