-- ==== Sys2Proof/Machine/Dispatch.lean ====
section
/-! DEFINITION. One arm for each command: a direct call of its meaning. -/

namespace Sys2Proof.Machine

/-- The effect of a command on everything but the queue of commands. -/
def exec (i : Instr) (s : State) : Host.Outcome State Fault Refusal :=
  match i with
  | .powerOnReset bank0Lost bank1Lost => Sys2Proof.Machine.execPowerOnReset bank0Lost bank1Lost s
  | .pinReset bank0Lost bank1Lost => Sys2Proof.Machine.execPinReset bank0Lost bank1Lost s
  | .frameComplete bytes => Sys2Proof.Machine.execFrameComplete bytes s
  | .receiveGapTimeout => Sys2Proof.Machine.execReceiveGapTimeout s
  | .badKindRequest tag kind => Sys2Proof.Machine.execBadKindRequest tag kind s
  | .replySendStart => Sys2Proof.Machine.execReplySendStart s
  | .noticeSendStart => Sys2Proof.Machine.execNoticeSendStart s
  | .frameSent => Sys2Proof.Machine.execFrameSent s
  | .getStatus tag => Sys2Proof.Machine.execGetStatus tag s
  | .setTime tag time => Sys2Proof.Machine.execSetTime tag time s
  | .setSchedule tag opening closing wakeOn planOn => Sys2Proof.Machine.execSetSchedule tag opening closing wakeOn planOn s
  | .openNow tag => Sys2Proof.Machine.execOpenNow tag s
  | .closeNow tag => Sys2Proof.Machine.execCloseNow tag s
  | .setWake tag keyEnable clearFlags => Sys2Proof.Machine.execSetWake tag keyEnable clearFlags s
  | .restart tag => Sys2Proof.Machine.execRestart tag s
  | .restartTakesEffect => Sys2Proof.Machine.execRestartTakesEffect s
  | .writeZone tag w => Sys2Proof.Machine.execWriteZone tag w s
  | .readZone tag zone => Sys2Proof.Machine.execReadZone tag zone s
  | .writeShutter tag index w => Sys2Proof.Machine.execWriteShutter tag index w s
  | .readShutter tag index => Sys2Proof.Machine.execReadShutter tag index s
  | .writeChain tag g => Sys2Proof.Machine.execWriteChain tag g s
  | .readChain tag => Sys2Proof.Machine.execReadChain tag s
  | .writeLanding tag index present up dn => Sys2Proof.Machine.execWriteLanding tag index present up dn s
  | .writeFilter tag index enabled kind first second action night => Sys2Proof.Machine.execWriteFilter tag index enabled kind first second action night s
  | .readFilter tag index => Sys2Proof.Machine.execReadFilter tag index s
  | .writePhrase tag index start length => Sys2Proof.Machine.execWritePhrase tag index start length s
  | .writeFireScript tag name script => Sys2Proof.Machine.execWriteFireScript tag name script s
  | .writeClosingStep tag index w => Sys2Proof.Machine.execWriteClosingStep tag index w s
  | .writeTimings tag t => Sys2Proof.Machine.execWriteTimings tag t s
  | .lockCommission tag => Sys2Proof.Machine.execLockCommission tag s
  | .saveSettings tag => Sys2Proof.Machine.execSaveSettings tag s
  | .saveComplete readBackGood => Sys2Proof.Machine.execSaveComplete readBackGood s
  | .chainStart tag => Sys2Proof.Machine.execChainStart tag s
  | .chainStop tag => Sys2Proof.Machine.execChainStop tag s
  | .chainPark tag => Sys2Proof.Machine.execChainPark tag s
  | .chainReset tag => Sys2Proof.Machine.execChainReset tag s
  | .chainStatus tag => Sys2Proof.Machine.execChainStatus tag s
  | .openingQuery tag index => Sys2Proof.Machine.execOpeningQuery tag index s
  | .shutterLower tag index => Sys2Proof.Machine.execShutterLower tag index s
  | .shutterRaise tag index => Sys2Proof.Machine.execShutterRaise tag index s
  | .shutterStatus tag index => Sys2Proof.Machine.execShutterStatus tag index s
  | .fireReport tag floor => Sys2Proof.Machine.execFireReport tag floor s
  | .fireReset tag => Sys2Proof.Machine.execFireReset tag s
  | .fireStatus tag => Sys2Proof.Machine.execFireStatus tag s
  | .readCalls tag queue => Sys2Proof.Machine.execReadCalls tag queue s
  | .ackCalls tag queue slot expected => Sys2Proof.Machine.execAckCalls tag queue slot expected s
  | .loopStatus tag quarter => Sys2Proof.Machine.execLoopStatus tag quarter s
  | .postAnnouncement tag slot post => Sys2Proof.Machine.execPostAnnouncement tag slot post s
  | .cancelAnnouncement tag slot => Sys2Proof.Machine.execCancelAnnouncement tag slot s
  | .announceStatus tag => Sys2Proof.Machine.execAnnounceStatus tag s
  | .readLog tag count => Sys2Proof.Machine.execReadLog tag count s
  | .ackLog tag index => Sys2Proof.Machine.execAckLog tag index s
  | .armNotices tag set => Sys2Proof.Machine.execArmNotices tag set s
  | .clearLatch tag set => Sys2Proof.Machine.execClearLatch tag set s
  | .encoderStep forward => Sys2Proof.Machine.execEncoderStep forward s
  | .indexPulse => Sys2Proof.Machine.execIndexPulse s
  | .speedWindowComplete => Sys2Proof.Machine.execSpeedWindowComplete s
  | .stepOffDwellElapsed => Sys2Proof.Machine.execStepOffDwellElapsed s
  | .driveOkChange high => Sys2Proof.Machine.execDriveOkChange high s
  | .syncRunLimit => Sys2Proof.Machine.execSyncRunLimit s
  | .clearOutComplete => Sys2Proof.Machine.execClearOutComplete s
  | .shutterFirstReading top bottom clear edge => Sys2Proof.Machine.execShutterFirstReading top bottom clear edge s
  | .shutterInputChange position line active => Sys2Proof.Machine.execShutterInputChange position line active s
  | .slowDrop position => Sys2Proof.Machine.execSlowDrop position s
  | .slowFinal position => Sys2Proof.Machine.execSlowFinal position s
  | .raiseTimeout position => Sys2Proof.Machine.execRaiseTimeout position s
  | .obstructionResume position => Sys2Proof.Machine.execObstructionResume position s
  | .obstructedRetry position => Sys2Proof.Machine.execObstructedRetry position s
  | .fireLineReadingChange line reading => Sys2Proof.Machine.execFireLineReadingChange line reading s
  | .startupReadTimeout line => Sys2Proof.Machine.execStartupReadTimeout line s
  | .escalationTimeout => Sys2Proof.Machine.execEscalationTimeout s
  | .evacGroupDue => Sys2Proof.Machine.execEvacGroupDue s
  | .pollReplyEnd bytes stopBits => Sys2Proof.Machine.execPollReplyEnd bytes stopBits s
  | .pollReplyTimeout => Sys2Proof.Machine.execPollReplyTimeout s
  | .callEscalationTimeout queue => Sys2Proof.Machine.execCallEscalationTimeout queue s
  | .localAcknowledge queue => Sys2Proof.Machine.execLocalAcknowledge queue s
  | .annunciatorGroupEnd queue => Sys2Proof.Machine.execAnnunciatorGroupEnd queue s
  | .annunciatorGroupDue queue => Sys2Proof.Machine.execAnnunciatorGroupDue queue s
  | .chimeEnd => Sys2Proof.Machine.execChimeEnd s
  | .phraseEnd => Sys2Proof.Machine.execPhraseEnd s
  | .gapEnd => Sys2Proof.Machine.execGapEnd s
  | .repeatTimeExpiry slot => Sys2Proof.Machine.execRepeatTimeExpiry slot s
  | .alertRepeatTimeout => Sys2Proof.Machine.execAlertRepeatTimeout s
  | .evacRepeatTimeout => Sys2Proof.Machine.execEvacRepeatTimeout s
  | .storeClockTick => Sys2Proof.Machine.execStoreClockTick s
  | .clearingLimitTimeout => Sys2Proof.Machine.execClearingLimitTimeout s
  | .watchmanKeyChange active => Sys2Proof.Machine.execWatchmanKeyChange active s
  | .keyHoldComplete => Sys2Proof.Machine.execKeyHoldComplete s
  | .openingLimitTimeout => Sys2Proof.Machine.execOpeningLimitTimeout s
  | .serviceLineByteArrives byte stopBit => Sys2Proof.Machine.execServiceLineByteArrives byte stopBit s
  | .firstPollAfterRestart => Sys2Proof.Machine.execFirstPollAfterRestart s

end Sys2Proof.Machine
end

