-- ==== Sys2Proof/Machine/Idle.lean ====
section
/-! DEFINITION. What the part does while no command waits: one millisecond of its own timebase passes, and every time it
keeps moves by one (log entry 2). Nothing else follows: the running out of a time is a command of its own. -/

namespace Sys2Proof.Machine

/-- A time that counts up and is held at the end of its range. -/
def countTo (limit n : Nat) : Nat := if n < limit then n + 1 else n

/-- A time that counts down and is held at 0, if it is running. -/
def countDown (t : Option Nat) : Option Nat := t.map (· - 1)

/-- The rest time (R24). -/
def Chain.tick (c : Chain) : Chain := if c.moving then c else { c with restMs := countTo 65535 c.restMs }

/-- The times of a shutter (R56, R64, R66, R67): phase limits, the edge-clear time and the retry time. -/
def ShutterState.tick (edge retries : Bool) : ShutterState → ShutterState
  | .dropping t => .dropping (t - 1)
  | .final t => .final (t - 1)
  | .raising t => .raising (t - 1)
  | .paused .obstruction r t => .paused .obstruction r (if edge then 0 else countTo 3000 t)
  | .fault .obstructed t => .fault .obstructed (if retries && !edge then countTo 30000 t else 0)
  | st => st

/-- The times of every shutter. A retry time counts in EVACUATE alone, so none of the time an origin order has stood in
ALERT goes to it: the model's choice (log entry 41). -/
def State.tickUnits (s : State) : List (Option Shutter) :=
  s.shutters.units.mapIdx fun n u => u.map fun sh =>
    { sh with state := sh.state.tick (s.inputs n).edge (s.fire.state = .evacuate && s.retryOrdered n) }

/-- The escalation timer and the group schedule (R86, R87). -/
def Fire.tick (f : Fire) : Fire :=
  { f with escalation := countDown f.escalation
           schedule := f.schedule.map fun g => { g with left := g.left - 1 } }

/-- The strike in hand (R120). -/
def Pattern.tick : Pattern → Pattern
  | .striking c g ms changed => .striking c g (countTo (groupMs c g) ms) changed
  | p => p

/-- A queue's escalation timer and its annunciator (R118, R120). -/
def Queue.tick (x : Queue) : Queue :=
  { x with timer := countDown x.timer, pattern := x.pattern.tick, sinceGroup := x.sinceGroup.map (countTo 4000) }

/-- The chime, the phrase or the gap in hand (R133, R135). -/
def Player.tick : Player → Player
  | .idle => .idle
  | .chime r ms => .chime r (countTo (r.script.chime * 600) ms)
  | .phrase r i e left => .phrase r i e (left - 1)
  | .gap left => .gap (left - 1)

/-- A slot's repeat time (R136). -/
def Slot.tick : Slot → Slot
  | .repeatWait p n left => .repeatWait p n (left - 1)
  | x => x

/-- The player's times, the repeat times and the fire timers (R136, R139, R142). -/
def Announcer.tick (a : Announcer) : Announcer :=
  { a with player := a.player.tick, slots := a.slots.map Slot.tick, timerA := countDown a.timerA
           timerE := countDown a.timerE }

/-- The key-hold time and the two limits (R160, R165, R170). -/
def Day.tick (d : Day) : Day :=
  { d with keyHold := if d.key then countTo 2000 d.keyHold else d.keyHold
           clearingLeft := countDown d.clearingLeft, openingLeft := countDown d.openingLeft }

/-- The gap timer of a partial frame (R173). -/
def Link.tick (l : Link) : Link := { l with gapMs := if l.partialFrame.isSome then countTo 21 l.gapMs else l.gapMs }

/-- One millisecond passes. -/
def idle (s : State) : State :=
  { s with
    chain := s.chain.tick
    shutters := { s.shutters with units := s.tickUnits }
    fire := s.fire.tick
    calls := ⟨s.calls.counting.tick, s.calls.floor.tick⟩
    announcer := s.announcer.tick
    day := s.day.tick
    link := s.link.tick }

end Sys2Proof.Machine
end

