-- ==== Sys2Proof/Safety.lean ====
section
/-! DEFINITION. What the statements speak of: a request taken and answered, the part of the state that nothing but a
command itself can change, and the invariants every step keeps. -/

namespace Sys2Proof

/-- The eight writes of the tables, which the commissioning lock freezes (R12). -/
def Request.writesTables : Request → Bool
  | .writeZone _ | .writeShutter .. | .writeChain _ | .writeLanding .. | .writeFilter .. | .writePhrase ..
  | .writeFireScript .. | .writeClosingStep .. => true
  | _ => false

/-- The commands that bring more than one block's change: the three resets, the end of a save, and the bytes and frames that
may bring a request or the end of a reply. -/
def Instr.carries : Instr → Bool
  | .powerOnReset .. | .pinReset .. | .restartTakesEffect | .saveComplete .. | .frameComplete ..
  | .serviceLineByteArrives .. | .frameSent => true
  | _ => false

end Sys2Proof

namespace Sys2Proof.Machine

/-! ### A request taken and answered -/

/-- The state in which the serving place is empty, so that a request is taken at once (R174). -/
abbrev State.serves (s : State) : Prop := s.link.serving = none

/-- A request is taken at once and no check of the service link's own turns it away for the store state (R174, R175). -/
abbrev State.takes (s : State) : Prop := s.serves ∧ s.unconfigured = false

/-- A request is taken at once, and neither the lock nor a save in progress holds a write back (R1). -/
abbrev State.writable (s : State) : Prop := s.serves ∧ s.store.lock = false ∧ s.store.saving = none

/-- The service link once a request has been taken and its reply, with KIND + 0x80 and the request's TAG, made ready
(R174, R175). -/
def Link.answered (tag : Byte) (r : Request) (payload : List Byte) (l : Link) : Link :=
  { l with
    serving := some ⟨tag, r.kindByte, .request r⟩
    ready := l.ready ++ [⟨tag, r.kindByte ||| 0x80#8, payload, .serving⟩] }

/-- The state in which a request has been taken and answered and nothing else has changed. -/
def State.answered (tag : Byte) (r : Request) (payload : List Byte) (s : State) : State :=
  { s with link := s.link.answered tag r payload }

/-! ### The steady part of the state -/

/-- A queue without its annunciator's pattern state. -/
def Queue.records (x : Queue) : Queue := { x with pattern := .silent }

/-- The service link without its notice conditions. -/
def Link.bare (l : Link) : Link := { l with notices := [] }

/-- The arm flags of the twelve conditions. -/
def Link.arms (l : Link) : List Bool := l.notices.map Notice.armed

/-- The conditions that only a command raises, never what follows it: FIRE_STAGE, LINE_FAULT, CALL_URGENT, CALL,
CALL_LOST and LOOP_STATE. -/
def Link.told (l : Link) : List (Option Notice) := [0, 1, 6, 7, 8, 9].map (l.notices[·]?)

/-- The part of the state that no move the part makes by itself can change: everything but the chain state with its rest
time and parked flag, the conflict latch, the shutters' running states and the raise queue, the announcements, the
annunciators' pattern states, the store state with its flags and limits, and the notice conditions those raise. -/
structure Steady where
  store : Commission
  fire : Fire
  intake : Intake
  pending : List Instr
  clock : Option Nat
  schedule : Schedule
  key : Bool
  keyHold : Nat
  inputs : List Inputs
  inputsRead : Bool
  failSafe : Bool
  p : Nat
  synced : Bool
  lastSlip : Option Int
  window : Int
  nPrev : Int
  nLast : Int
  driveOk : Bool
  stopPushes : BitVec 256
  counting : Queue
  floor : Queue
  link : Link
  arms : List Bool
  told : List (Option Notice)
deriving DecidableEq, Repr

/-- The steady part of a state. -/
def State.steady (s : State) : Steady where
  store := s.store
  fire := s.fire
  intake := s.intake
  pending := s.pending
  clock := s.day.clock
  schedule := s.day.schedule
  key := s.day.key
  keyHold := s.day.keyHold
  inputs := s.shutters.inputs
  inputsRead := s.shutters.inputsRead
  failSafe := s.shutters.failSafe
  p := s.chain.p
  synced := s.chain.synced
  lastSlip := s.chain.lastSlip
  window := s.chain.window
  nPrev := s.chain.nPrev
  nLast := s.chain.nLast
  driveOk := s.chain.driveOk
  stopPushes := s.chain.stopPushes
  counting := s.calls.counting.records
  floor := s.calls.floor.records
  link := s.link.bare
  arms := s.link.arms
  told := s.link.told

/-- A request whose own effect is on the steady part has been answered. -/
def Steady.answered (tag : Byte) (r : Request) (payload : List Byte) (x : Steady) : Steady :=
  { x with link := x.link.answered tag r payload }

/-- An accepted write has stored new tables and set the unsaved-tables flag (R1, R13). -/
def Steady.withTables (tables : Tables) (x : Steady) : Steady :=
  { x with store := { x.store with tables := tables, unsaved := true } }

/-- A condition of the steady part has been raised with its data (R177): `place` is its place in `Link.told`. -/
def Steady.tell (place : Nat) (data : List Byte) (x : Steady) : Steady :=
  { x with told := x.told.modify place (Option.map (Notice.raise data)) }

/-- A queue of the steady part, by its name, replaced. -/
def Steady.withQueue (q : QueueName) (x : Queue) (st : Steady) : Steady :=
  match q with
  | .counting => { st with counting := x.records }
  | .floor => { st with floor := x.records }

/-! ### Conditions on the state -/

/-- No curtain hangs between the clear line and the bottom, so that no conflict can come into being (R49, R50). -/
abbrev State.doorwaysFree (s : State) : Prop := ∀ n < 32, (s.inputs n).clear = true ∨ (s.inputs n).bottom = true

/-- The curtain of a shutter cannot be found in a doorway: it guards no opening, or CLEAR or BOTTOM is active (R49). -/
def State.outOfDoorway (s : State) (n : Nat) : Prop :=
  (∀ r, s.record n = some r → r.opening? = none) ∨ (s.inputs n).clear = true ∨ (s.inputs n).bottom = true

/-- The store is in a state that it leaves only by a command (R155). -/
abbrev State.storeRests (s : State) : Prop :=
  s.day.state = .standby ∨ s.day.state = .trading ∨ s.day.state = .closing

/-- No move that the store can make by itself at this moment reaches a chain in a RUN state (R155, R160, R162): the store
rests, or is in CLEARING, or is in OPENING with no closing plan to begin. -/
abbrev State.sparesChain (s : State) : Prop :=
  s.storeRests ∨ s.day.state = .clearing ∨ (s.day.state = .opening ∧ s.day.schedule.planOn = false)

/-! ### Moments -/

/-- The conflict latch has been set in `t` by a conflict at shutter n with cabin k in opening j, found in `s` (R50, R51): the
record, the CONFLICT notice with its bytes, and a chain in a RUN state halted with cause CONFLICT. -/
def State.latchedBy (t s : State) (n j k : Nat) : Prop :=
  t.board.latch = some ⟨n, j, k, s.chain.p, s.chain.synced, s.chain.speed, s.day.clock⟩ ∧
  (t.notice 2).latched = some ⟨u8 n ++ u8 j ++ u8 k ++ u16 s.chain.p ++ [if s.chain.synced then 0#8 else 1#8] ++
      u16 s.chain.speed ++ opt24 s.day.clock, match (s.notice 2).latched with
    | none => 1
    | some l => min (l.raises + 1) 255⟩ ∧
  (s.chain.state.runs = true → t.chain.state =
    .halted ⟨.conflict, none, s.chain.state.phase, s.chain.p, s.chain.synced, s.day.clock⟩) ∧
  (s.chain.state.runs = false → t.chain = s.chain)

/-- No shutter has a move due by itself at this moment: none waits for the boarding clearance or the dwell that it already
has (R48, R62, R69), the arbiter has no raise to start (R72), every conflict is an old one (R50), and a moving chain has not
rested for the dwell (R24). -/
def State.shuttersSettled (s : State) : Prop :=
  (∀ n < 32, s.conflictAt n = true → n ∈ s.board.inConflict) ∧
  (s.chain.moving = true → s.chain.restMs < s.store.timing.dwell * 1000) ∧
  (∀ n r sh marked, s.record n = some r → s.unit n = some sh → sh.state = .held marked → s.clearFor r = false) ∧
  (∀ n sh resume time, s.unit n = some sh → sh.state = .paused .conflict resume time → s.restedForDwell = false) ∧
  (s.shutters.raiseQueue = [] ∨ s.fire.state = .evacuate ∨ 4 ≤ s.raisingCount)

/-- A run in hand as ALERT entry leaves it (R139): a host or closing run with no end request is given DEFER. -/
def Run.deferred (r : Run) : Run := if r.fromSlot ∧ r.endRequest = none then { r with endRequest := some .defer } else r

/-! ### Invariants -/

/-- The conflict latch is set while a conflict exists at any shutter, and what the Boarding Monitor remembers is where one
exists (R50, R52). -/
def State.conflictsLatched (s : State) : Prop :=
  s.board.inConflict = s.conflicts ∧ (s.conflicts ≠ [] → s.board.latch.isSome = true)

/-- RUN is off while the conflict latch is set, and in every store state in which CHAIN_START is refused and no
clear-out can be in hand (R15, R25, R27, R163). -/
abbrev State.runGuarded (s : State) : Prop :=
  (s.board.latch.isSome = true → s.chain.state.runs = false) ∧
  (s.day.state = .unconfigured ∨ s.day.state = .standby ∨ s.day.state = .shutting ∨ s.day.state = .shut ∨
    s.day.state = .waking → s.chain.state.runs = false)

/-- A call queue is a ring of eight slots holding no two records of one code (R113). -/
abbrev Queue.sound (x : Queue) : Prop := x.head < 8 ∧ x.calls.length ≤ 8 ∧ (x.calls.map Call.code).Nodup

/-- Every shutter record's close group lies in 0 to 3 (R4). -/
abbrev Tables.grouped (t : Tables) : Prop := ∀ r, some r ∈ t.shutters → r.group ≤ 3

/-- The held ranges: the queues (R113), the announcement log (R146), the loop error counter (R99), the store clock (R152),
the raises drawn on the motor supply (R72), the speed windows (R22), and the close groups of the tables and of every image
(R4). -/
def State.bounded (s : State) : Prop :=
  s.calls.counting.sound ∧ s.calls.floor.sound ∧ s.announcer.log.length ≤ 16 ∧ s.intake.counter ≤ 255 ∧
  (s.intake.recovery.isSome = true → s.intake.counter = 255) ∧ (∀ t, s.day.clock = some t → t < Config.day) ∧
  s.raisingCount ≤ 4 ∧ s.chain.window.natAbs ≤ 2047 ∧ s.chain.nPrev.natAbs ≤ 2047 ∧ s.chain.nLast.natAbs ≤ 2047 ∧
  s.store.tables.grouped ∧ (∀ a, s.store.bank0 = some a → a.tables.grouped) ∧
  (∀ a, s.store.bank1 = some a → a.tables.grouped) ∧ (∀ j, s.store.saving = some j → j.image.tables.grouped)

/-- The tables of an installation have the sizes the rules give them (R2, R4, R6, R7, R8, R10). -/
abbrev Tables.shaped (t : Tables) : Prop :=
  t.zones.length = 32 ∧ t.shutters.length = 32 ∧ t.landings.length = 8 ∧ t.filters.length = 24 ∧
  t.phrases.length = 256 ∧ t.plan.length = 6

/-- Every table of the part has its size (R2 to R10, R55, R97, R127, R177), and so have those of every image. -/
def State.shaped (s : State) : Prop :=
  s.store.tables.shaped ∧ (∀ a, s.store.bank0 = some a → a.tables.shaped) ∧
  (∀ a, s.store.bank1 = some a → a.tables.shaped) ∧ (∀ j, s.store.saving = some j → j.image.tables.shaped) ∧
  s.shutters.inputs.length = 32 ∧ s.shutters.units.length = 32 ∧ s.intake.stations.length = 64 ∧
  s.announcer.slots.length = 9 ∧ s.link.notices.length = 12

/-- The Shutter Controller's promises: only a commissioned position has a running state (R4); the raise queue holds
shutters in RAISE_WAIT, each at most once (R71); nothing runs before the first reading or waits in UNCONFIGURED (R15, R58); in EVACUATE no
shutter is RAISING and none waits to be raised (R72, R75); from SHUTTING until the store opens no night-close shutter is
OPEN, RAISE_WAIT or RAISING (R76, R163). -/
def State.shuttersSound (s : State) : Prop :=
  (∀ n, s.record n = none ∨ 32 ≤ n → s.unit n = none) ∧
  (∀ n ∈ s.shutters.raiseQueue, ∃ sh, s.unit n = some sh ∧ sh.state = .raiseWait) ∧ s.shutters.raiseQueue.Nodup ∧
  (s.shutters.inputsRead = false → s.shutters.raiseQueue = [] ∧ ∀ n, s.unit n = none) ∧
  (s.unconfigured = true → s.shutters.raiseQueue = []) ∧
  (s.fire.state = .evacuate →
    s.shutters.raiseQueue = [] ∧ ∀ n sh, s.unit n = some sh → sh.state.phase ≠ .raising) ∧
  (s.day.state = .shutting ∨ s.day.state = .shut ∨ s.day.state = .waking →
    ∀ n sh, s.nightClose n = true → s.unit n = some sh →
      sh.state.phase ≠ .isOpen ∧ sh.state.phase ≠ .raiseWait ∧ sh.state.phase ≠ .raising)

/-- While the fire state is EVACUATE a playing run is script E's, no slot is PENDING or in REPEAT_WAIT, and no closing
step waits (R132, R141). -/
def State.evacuationSpeaks (s : State) : Prop :=
  s.fire.state = .evacuate →
    s.announcer.waiting = none ∧
    (∀ x ∈ s.announcer.slots, x.code ≠ 1 ∧ x.code ≠ 3) ∧
    (∀ r, s.announcer.player.run? = some r → r.source = .scriptE)

/-- A safe run: every one of its first k steps answers a next state. -/
def SafeRun (k : Nat) (s : State) : Prop := ∃ t, Sys2Proof.core.run k s = .next t

end Sys2Proof.Machine
end

