-- ==== Sys2Proof/Certificates/Slice0/Obligations.lean ====
section
/-! DEFINITION. The statements about the SC310: what each command does, what it leaves unchanged, and what holds of the
whole part in every state. Each docstring names the rules it comes from.

Where a statement gives `t.steady`, it gives every part of the state that what follows a command at the same moment cannot
change (`State.steady`), so that nothing else of it has changed. A timeout's command is the moment its time has run out, and has
no effect where that time does not run (log entry 3); the encodings of section 10.8 are read as log entry 9 says. -/

open Sys2Proof Sys2Proof.Machine

/-! ### The queue of commands -/

/-- A step takes the command at the front of the queue and carries it out with the queue's rest. -/
def Obligations.FrontCommandRuns : Prop :=
  ∀ (c : Instr) (rest : List Instr) (s : State),
    step { s with pending := c :: rest } = exec c { s with pending := rest }

/-- Every command answers a next state, and none touches the queue of commands. With no command waiting a step lets one
millisecond pass: the rest time of a chain at rest, the phase limits, the edge-clear and retry times of the shutters, the
escalation timer and the group schedule, the queues' timers, the strike in hand and the time since the last group, the player's
times, the repeat times and the fire scripts' timers, the key-hold time, the clearing and opening limits and the gap timer of a
partial frame each move by one, held at 0 or at their end, and nothing else changes. That nothing stops the part is log entry 31,
and the millisecond is the model's choice, log entry 2. Which shutters count a retry time, and that they count it in EVACUATE
alone, is the model's choice too, log entries 38 and 41. -/
def Obligations.NoCommandStops : Prop :=
  (∀ (c : Instr) (s : State), ∃ t, exec c s = .next t ∧ t.pending = s.pending) ∧
  (∀ (s : State) (down : Option Nat → Option Nat) (up : Nat → Nat → Nat), s.pending = [] →
    (∀ x, down x = x.map (· - 1)) → (∀ limit x, up limit x = if x < limit then x + 1 else x) →
    ∃ t, step s = .next t ∧
      t = { s with
        chain := { s.chain with restMs := if s.chain.moving then s.chain.restMs else up 65535 s.chain.restMs }
        shutters := { s.shutters with units := t.shutters.units }
        fire := { s.fire with
          escalation := down s.fire.escalation
          schedule := s.fire.schedule.map fun g => { g with left := g.left - 1 } }
        calls := t.calls
        announcer := { s.announcer with
          slots := t.announcer.slots, player := t.announcer.player
          timerA := down s.announcer.timerA, timerE := down s.announcer.timerE }
        day := { s.day with
          keyHold := if s.day.key then up 2000 s.day.keyHold else s.day.keyHold
          clearingLeft := down s.day.clearingLeft, openingLeft := down s.day.openingLeft }
        link := { s.link with gapMs := if s.link.partialFrame.isSome then up 21 s.link.gapMs else s.link.gapMs } } ∧
      (∀ n, t.unit n = (s.unit n).map fun sh => { sh with state := match sh.state with
        | .dropping left => .dropping (left - 1)
        | .final left => .final (left - 1)
        | .raising left => .raising (left - 1)
        | .paused .obstruction resume clear =>
          .paused .obstruction resume (if (s.inputs n).edge then 0 else up 3000 clear)
        | .fault .obstructed retry => .fault .obstructed
          (if s.fire.state = .evacuate ∧ s.retryOrdered n = true ∧ (s.inputs n).edge = false then up 30000 retry else 0)
        | other => other }) ∧
      (∀ q, t.queue q = { s.queue q with
        timer := down (s.queue q).timer
        sinceGroup := (s.queue q).sinceGroup.map (up 4000)
        pattern := match (s.queue q).pattern with
          | .striking code group ms changed => .striking code group (up (groupMs code group) ms) changed
          | other => other }) ∧
      t.announcer.player = (match s.announcer.player with
        | .idle => .idle
        | .chime r ms => .chime r (up (r.script.chime * 600) ms)
        | .phrase r place entry left => .phrase r place entry (left - 1)
        | .gap left => .gap (left - 1)) ∧
      (∀ n, t.slot n = match s.slot n with
        | .repeatWait post run left => .repeatWait post run (left - 1)
        | other => other))

/-! ### Resets (R14, R40, R54, R58, R89, R112, R126, R150, R172, R183) -/

/-- POWER_ON_RESET. With neither bank good the part is as `State.reset`; otherwise the newest good image gives the
tables, the timing set and the schedule, the lock is clear and the store is in STANDBY with its clock unset (R14,
R172). The banks lost as operands are log entry 13, and State.reset's empty banks log entry 1. -/
def Obligations.PowerOn : Prop :=
  ∀ (lost0 lost1 : Bool) (s : State) (c : Commission),
    c = { s.store with
      bank0 := if lost0 then none else s.store.bank0
      bank1 := if lost1 then none else s.store.bank1 } →
    (c.bank0 = none → c.bank1 = none →
      exec (.powerOnReset lost0 lost1) s = .next { State.reset with choices := s.choices, pending := s.pending }) ∧
    (∀ inBank1 a, c.newest? = some (inBank1, a) →
      ∃ t, exec (.powerOnReset lost0 lost1) s = .next t ∧
        t.store = { c with tables := a.tables, timing := a.timing, lock := false, unsaved := false,
                           imageFault := false, saving := none } ∧
        t.chain = Chain.start ∧ t.board = Board.start ∧ t.shutters = Shutters.start ∧ t.fire = Fire.start ∧
        t.calls = Calls.start ∧ t.announcer = Announcer.start ∧
        t.intake = { Intake.start with poll := (lowestFrom a.tables.site.presence 0).map fun n => ⟨n, 0#4⟩ } ∧
        t.day = { State.reset.day with state := .standby, schedule := a.schedule } ∧
        t.link.bare = Link.start.bare ∧ t.link.arms = List.replicate 12 false ∧
        (∀ k < 12, (t.notice k).latched =
          if k = 5 then some ⟨[1#8, 0xFF#8, 14#8, 0xFF#8, 0xFF#8, 0xFF#8, 0#8], 1⟩ else none) ∧
        t.pending = s.pending)

/-- PIN_RESET under the lock: the tables and the lock stand; a good image gives the timing set and the schedule again,
and without one everything of the store stands and the image-fault flag is set (R12, R14). The clock and the fire
state with its entry record are kept, and every other block starts afresh (R40, R54, R58, R89, R112, R126, R150, R172,
R183). The banks lost as operands are log entry 13. -/
def Obligations.PinResetUnderLock : Prop :=
  ∀ (lost0 lost1 : Bool) (s : State) (c : Commission),
    c = { s.store with
      bank0 := if lost0 then none else s.store.bank0
      bank1 := if lost1 then none else s.store.bank1 } →
    s.store.lock = true →
    ∃ t, exec (.pinReset lost0 lost1) s = .next t ∧
      t.store.tables = s.store.tables ∧ t.store.lock = true ∧ t.store.saving = none ∧
      t.store.bank0 = c.bank0 ∧ t.store.bank1 = c.bank1 ∧
      (∀ inBank1 a, c.newest? = some (inBank1, a) →
        t.store.timing = a.timing ∧ t.day.schedule = a.schedule ∧ t.store.unsaved = false ∧
        t.store.imageFault = false) ∧
      (c.newest? = none →
        t.store.timing = s.store.timing ∧ t.day.schedule = s.day.schedule ∧ t.store.unsaved = true ∧
        t.store.imageFault = true) ∧
      t.day = { State.reset.day with
        state := .standby, clock := s.day.clock, schedule := t.day.schedule
        last := ⟨none, .startUp, s.day.clock⟩ } ∧
      t.fire = { Fire.start with state := s.fire.state, entry := s.fire.entry } ∧
      t.chain = Chain.start ∧ t.board = Board.start ∧ t.shutters = Shutters.start ∧ t.calls = Calls.start ∧
      t.intake = { Intake.start with
        poll := (lowestFrom s.store.tables.site.presence 0).map fun n => ⟨n, 0#4⟩ } ∧
      t.announcer = Announcer.start ∧ t.link.bare = Link.start.bare ∧ t.link.arms = List.replicate 12 false ∧
      (∀ k < 12, (t.notice k).latched =
        if k = 5 then some ⟨[1#8, 0xFF#8, 14#8] ++ opt24 s.day.clock ++ [0#8], 1⟩ else none) ∧
      t.choices = s.choices ∧ t.pending = s.pending

/-- PIN_RESET with the lock clear: the newest good image is loaded and the store is in STANDBY with the fire state
held; with none the tables are emptied, the store is UNCONFIGURED, and a fire state other than NORMAL goes to NORMAL
with cause START_UP and raises FIRE_STAGE (R14, R89). The clock is kept and every other block starts afresh (R40, R54,
R58, R112, R126, R150, R152, R172, R183). The banks lost as operands are log entry 13, and nothing is said of the
fail-safe in UNCONFIGURED (log entry 7). -/
def Obligations.PinResetWithoutLock : Prop :=
  ∀ (lost0 lost1 : Bool) (s : State) (c : Commission),
    c = { s.store with
      bank0 := if lost0 then none else s.store.bank0
      bank1 := if lost1 then none else s.store.bank1 } →
    s.store.lock = false →
    ∃ t, exec (.pinReset lost0 lost1) s = .next t ∧
      t.store.lock = false ∧ t.store.saving = none ∧ t.store.bank0 = c.bank0 ∧ t.store.bank1 = c.bank1 ∧
      t.store.imageFault = false ∧
      t.day = { State.reset.day with
        state := t.day.state, clock := s.day.clock, schedule := t.day.schedule
        last := ⟨none, .startUp, s.day.clock⟩ } ∧
      (∀ inBank1 a, c.newest? = some (inBank1, a) →
        t.store.tables = a.tables ∧ t.store.timing = a.timing ∧ t.day.schedule = a.schedule ∧
        t.store.unsaved = false ∧ t.day.state = .standby ∧ t.shutters = Shutters.start ∧
        t.fire = { Fire.start with state := s.fire.state, entry := s.fire.entry } ∧
        ∀ k < 12, (t.notice k).latched =
          if k = 5 then some ⟨[1#8, 0xFF#8, 14#8] ++ opt24 s.day.clock ++ [0#8], 1⟩ else none) ∧
      (c.newest? = none →
        t.store.tables = Tables.empty ∧ t.store.timing = Timing.default ∧ t.day.schedule = Schedule.empty ∧
        t.store.unsaved = true ∧ t.day.state = .unconfigured ∧
        t.fire = { Fire.start with entry := if s.fire.state = .normal then s.fire.entry
                                            else some ⟨.startUp, s.day.clock⟩ } ∧
        ∀ k < 12, (t.notice k).latched =
          if k = 5 then some ⟨[0#8, 0xFF#8, 14#8] ++ opt24 s.day.clock ++ [0#8], 1⟩
          else if k = 0 ∧ s.fire.state ≠ .normal then some ⟨[0#8, 4#8] ++ opt24 s.day.clock, 1⟩ else none) ∧
      t.chain = Chain.start ∧ t.board = Board.start ∧ t.calls = Calls.start ∧ t.announcer = Announcer.start ∧
      t.shutters = { Shutters.start with failSafe := t.shutters.failSafe } ∧
      t.intake = { Intake.start with
        poll := (lowestFrom t.store.tables.site.presence 0).map fun n => ⟨n, 0#4⟩ } ∧
      t.link.bare = Link.start.bare ∧ t.link.arms = List.replicate 12 false ∧
      t.choices = s.choices ∧ t.pending = s.pending

/-! ### The service link (chapter 10) -/

/-- The payload that a request's frame carries is read back as that request, and no other payload is (R175, section
10.8). -/
def Obligations.PayloadReadsBack : Prop :=
  (∀ r : Request, r.wellFormed = true → bodyOf r.kindByte r.payload = .request r) ∧
  (∀ (kind : Byte) (payload : List Byte) (r : Request), payload.length ≤ 200 → bodyOf kind payload = .request r →
    r.wellFormed = true ∧ r.kindByte = kind ∧ r.payload = payload)

/-- FRAME_COMPLETE on the whole frame of a request does what that request's own command does, the gap timer being set back
by the frame's bytes (R173, section 10.8). -/
def Obligations.WholeFrameReceived : Prop :=
  ∀ (c : Instr) (tag : Byte) (r : Request) (s : State),
    c.request? = some (tag, r) → r.wellFormed = true → s.link.partialFrame = none →
    exec (.frameComplete (frameBytes r.kindByte tag r.payload)) s =
      exec c { s with link := { s.link with gapMs := 0 } }

/-- A good frame of a KIND outside the catalogue is answered BAD_KIND, with the top bit of its KIND set and the kind
refusal count raised, whether it comes by FRAME_COMPLETE or as BAD_KIND_REQUEST; one of a length its KIND does not
accept is answered BAD_LENGTH. Nothing else changes (R173, R174, R175). A request command whose operands no frame can
hold is answered BAD_LENGTH likewise, which is the model's choice (log entry 10). -/
def Obligations.BadFramesAnswered : Prop :=
  (∀ (c : Instr) (tag : Byte) (r : Request) (s : State),
    c.request? = some (tag, r) → r.wellFormed = false → s.serves →
    exec c s = .next { s with link := { s.link with
      serving := some ⟨tag, r.kindByte, .badLength⟩
      ready := s.link.ready ++ [⟨tag, r.kindByte ||| 0x80#8, [1#8], .serving⟩] } }) ∧
  ∀ (kind tag : Byte) (payload : List Byte) (s : State),
    payload.length ≤ 200 → s.link.partialFrame = none → s.serves →
    (payloadReader kind.toNat = none →
      exec (.badKindRequest tag kind) s = .next { s with link := { s.link with
        serving := some ⟨tag, kind, .unknownKind⟩
        kindRefusals := min (s.link.kindRefusals + 1) 65535
        ready := s.link.ready ++ [⟨tag, kind ||| 0x80#8, [2#8], .serving⟩] } } ∧
      exec (.frameComplete (frameBytes kind tag payload)) s = .next { s with link := { s.link with
        gapMs := 0
        serving := some ⟨tag, kind, .unknownKind⟩
        kindRefusals := min (s.link.kindRefusals + 1) 65535
        ready := s.link.ready ++ [⟨tag, kind ||| 0x80#8, [2#8], .serving⟩] } }) ∧
    (∀ read, payloadReader kind.toNat = some read → read payload = none →
      exec (.frameComplete (frameBytes kind tag payload)) s = .next { s with link := { s.link with
        gapMs := 0
        serving := some ⟨tag, kind, .badLength⟩
        ready := s.link.ready ++ [⟨tag, kind ||| 0x80#8, [1#8], .serving⟩] } })

/-- SERVICE_LINE_BYTE_ARRIVES and RECEIVE_GAP_TIMEOUT: the receiver hunts for 0xA5 and assembles what follows; a byte
without its stop bit, a LEN above 200 or a gap discards a partial frame and raises the gap discards; a frame that
completes with a CRC that does not match is discarded and raises the CRC discards (R173). The byte that completes a
frame whose CRC matches hands that frame to the receive places: a request does what its own command does, an unknown
KIND what BAD_KIND_REQUEST does, and a length its KIND does not accept is answered BAD_LENGTH (R174, R175). Nothing is
said of a start byte without its stop bit (log entry 8). -/
def Obligations.ReceiverBytes : Prop :=
  ∀ (b : Byte) (stop : Bool) (s : State),
    (s.link.partialFrame = none →
      exec .receiveGapTimeout s = .next s ∧
      (b ≠ 0xA5#8 → exec (.serviceLineByteArrives b stop) s = .next s) ∧
      exec (.serviceLineByteArrives 0xA5#8 true) s =
        .next { s with link := { s.link with partialFrame := some [], gapMs := 0 } }) ∧
    (∀ got len, s.link.partialFrame = some got → len = ((got ++ [b]).headD 0#8).toNat →
      exec .receiveGapTimeout s = .next { s with link := { s.link with
        partialFrame := none, gapDiscards := min (s.link.gapDiscards + 1) 65535 } } ∧
      (stop = false ∨ 200 < len →
        exec (.serviceLineByteArrives b stop) s = .next { s with link := { s.link with
          partialFrame := none, gapDiscards := min (s.link.gapDiscards + 1) 65535 } }) ∧
      (stop = true → len ≤ 200 → got.length + 1 ≠ len + 5 →
        exec (.serviceLineByteArrives b stop) s = .next { s with link := { s.link with
          partialFrame := some (got ++ [b]), gapMs := 0 } }) ∧
      (stop = true → len ≤ 200 → got.length + 1 = len + 5 →
        bytes16 (crc16 ((got ++ [b]).take (len + 3))) ≠ (got ++ [b]).drop (len + 3) →
        exec (.serviceLineByteArrives b stop) s = .next { s with link := { s.link with
          partialFrame := none, crcDiscards := min (s.link.crcDiscards + 1) 65535 } }) ∧
      (∀ kind tag payload, payload.length ≤ 200 → 0xA5#8 :: (got ++ [b]) = frameBytes kind tag payload →
        (∀ c r, c.request? = some (tag, r) → r.wellFormed = true → kind = r.kindByte → payload = r.payload →
          exec (.serviceLineByteArrives b true) s =
            exec c { s with link := { s.link with partialFrame := none } }) ∧
        (payloadReader kind.toNat = none → exec (.serviceLineByteArrives b true) s =
          exec (.badKindRequest tag kind) { s with link := { s.link with partialFrame := none } }) ∧
        (∀ read, s.serves → payloadReader kind.toNat = some read → read payload = none →
          exec (.serviceLineByteArrives b true) s = .next { s with link := { s.link with
            partialFrame := none
            serving := some ⟨tag, kind, .badLength⟩
            ready := s.link.ready ++ [⟨tag, kind ||| 0x80#8, [1#8], .serving⟩] } })))

/-- REPLY_SEND_START and NOTICE_SEND_START: an idle transmitter begins the reply that became ready first; with no reply
ready it begins the notice of the highest-priority condition that is latched and armed, with its raise count and data as
they stand, and clears that condition's arm flag. A transmitter that is sending begins nothing (R176, R178). -/
def Obligations.TransmitterChooses : Prop :=
  ∀ (s : State),
    (∀ frame, s.link.sending = some frame →
      exec .replySendStart s = .next s ∧ exec .noticeSendStart s = .next s) ∧
    (∀ r rest, s.link.sending = none → s.link.ready = r :: rest →
      exec .replySendStart s = .next { s with link := { s.link with sending := some (.reply r), ready := rest } } ∧
      exec .noticeSendStart s = .next s) ∧
    (s.link.sending = none → s.link.ready = [] →
      exec .replySendStart s = .next s ∧
      ((∀ c ∈ s.link.notices, c.latched = none ∨ c.armed = false) → exec .noticeSendStart s = .next s) ∧
      (∀ before l after, s.link.notices = before ++ ⟨some l, true⟩ :: after →
        (∀ c ∈ before, c.latched = none ∨ c.armed = false) →
        exec .noticeSendStart s = .next { s with link := { s.link with
          sending := some (.notice (u8 before.length ++ u8 l.raises ++ l.data))
          notices := before ++ ⟨some l, false⟩ :: after } }))

/-- A request that completes with the serving place occupied waits in the holding place; with both occupied it is discarded
and the overrun discards rise. Nothing else changes (R174). FRAME_SENT: the end of a notice, and of an owed save reply, leaves
the transmitter idle; the end of the reply to the request in the serving place frees that place, and a request in the holding
place is then taken as if it had just come (R174, R176). -/
def Obligations.ReceivePlaces : Prop :=
  (∀ (c : Instr) (tag : Byte) (r : Request) (s : State) (serving : Held),
    c.request? = some (tag, r) → r.wellFormed = true → s.link.serving = some serving →
    (s.link.holding = none →
      exec c s = .next { s with link := { s.link with holding := some ⟨tag, r.kindByte, .request r⟩ } }) ∧
    (∀ held, s.link.holding = some held →
      exec c s = .next { s with link := { s.link with
        overrunDiscards := min (s.link.overrunDiscards + 1) 65535 } })) ∧
  (∀ (s : State),
    (s.link.sending = none → exec .frameSent s = .next s) ∧
    (∀ payload, s.link.sending = some (.notice payload) →
      exec .frameSent s = .next { s with link := { s.link with sending := none } }) ∧
    (∀ r, s.link.sending = some (.reply r) → r.answers = .owedSave →
      exec .frameSent s = .next { s with link := { s.link with sending := none } }) ∧
    (∀ r, s.link.sending = some (.reply r) → r.answers = .serving → s.link.holding = none →
      exec .frameSent s = .next { s with link := { s.link with sending := none, serving := none } }) ∧
    (∀ r c tag q, s.link.sending = some (.reply r) → r.answers = .serving → c.request? = some (tag, q) →
      q.wellFormed = true → s.link.holding = some ⟨tag, q.kindByte, .request q⟩ →
      exec .frameSent s =
        exec c { s with link := { s.link with sending := none, serving := none, holding := none } }))

/-- A raise latches its condition with the new data and a raise count of 1, or of one more, held at 255, and touches no
other condition and no arm flag (R177). ARM_NOTICES sets the arm flag of each condition named and touches nothing else; a
set naming a code above 11 is refused with BAD_VALUE. The reply carries the arm flags and the latched flags of all twelve
conditions (R179). -/
def Obligations.NoticesArmed : Prop :=
  (∀ (c : Condition) (data : List Byte) (s : State), s.link.notices.length = 12 →
    (raise c data s).notice c.ctorIdx =
      ⟨some ⟨data, match (s.notice c.ctorIdx).latched with
        | none => 1
        | some l => min (l.raises + 1) 255⟩, (s.notice c.ctorIdx).armed⟩ ∧
    (∀ k, k ≠ c.ctorIdx → (raise c data s).notice k = s.notice k) ∧
    raise c data s = { s with link := { s.link with notices := (raise c data s).link.notices } }) ∧
  (∀ (tag : Byte) (set : BitVec 16) (s : State), s.takes → s.link.notices.length = 12 →
    (4096 ≤ set.toNat → exec (.armNotices tag set) s = .next (s.answered tag (.armNotices set) [3#8])) ∧
    (set.toNat < 4096 → ∃ (notices : List Notice) (armed latched : BitVec 16),
      exec (.armNotices tag set) s = .next
        ({ s with link := { s.link with notices := notices } }.answered tag (.armNotices set)
          ([0#8] ++ bytes16 armed ++ bytes16 latched)) ∧
      notices.length = 12 ∧
      ∀ k < 16,
        (notices[k]?).map Notice.latched = (s.link.notices[k]?).map Notice.latched ∧
        (notices[k]?).map Notice.armed = (s.link.notices[k]?).map (fun c => c.armed || set.getLsbD k) ∧
        armed.getLsbD k = ((notices[k]?).map Notice.armed).getD false ∧
        latched.getLsbD k = ((notices[k]?).map fun c => c.latched.isSome).getD false))

/-- CLEAR_LATCH clears each condition named that is latched and leaves every arm flag; when it names CONFLICT the conflict
latch is cleared with it, and while a conflict condition holds at any shutter the whole request is refused with BUSY; a set
naming a code above 11 is refused with BAD_VALUE (R52, R180). The conflict check: a conflict that comes into being with the
latch clear sets it with its record, raises CONFLICT with that record and halts a chain in a RUN state with cause CONFLICT; with
the latch set nothing of these changes; either way each shutter at which one comes into being is paused (R36, R49 to R51, R68).
An ENCODER_STEP of a RUNNING chain that brings a cabin floor behind a curtain in a doorway, and a CHAIN_START that finds one so,
latch, halt and pause at that moment (R27, R50, R51). Every step keeps it that the conflict latch is set while a conflict
exists, since the check is made at every change and a CLEAR_LATCH is refused then (R50, R52). Which of two conflicts is taken
first is free (log entry 5). -/
def Obligations.ClearLatch : Prop :=
  (∀ (tag : Byte) (set : BitVec 16) (s : State), s.takes → s.link.notices.length = 12 →
    (4096 ≤ set.toNat → exec (.clearLatch tag set) s = .next (s.answered tag (.clearLatch set) [3#8])) ∧
    (∀ n < 32, set.toNat < 4096 → set.getLsbD 2 = true → s.conflictAt n = true →
      exec (.clearLatch tag set) s = .next (s.answered tag (.clearLatch set) [7#8])) ∧
    (set.toNat < 4096 → (set.getLsbD 2 = true → ∀ n < 32, s.conflictAt n = false) →
      ∃ (notices : List Notice) (armed latched : BitVec 16),
        exec (.clearLatch tag set) s = .next
          ({ s with
            board := { s.board with latch := if set.getLsbD 2 then none else s.board.latch }
            link := { s.link with notices := notices } }.answered tag (.clearLatch set)
              ([0#8] ++ bytes16 armed ++ bytes16 latched)) ∧
        notices.length = 12 ∧
        ∀ k < 16,
          (notices[k]?).map Notice.armed = (s.link.notices[k]?).map Notice.armed ∧
          (notices[k]?).map Notice.latched =
            (s.link.notices[k]?).map (fun c => if set.getLsbD k then none else c.latched) ∧
          armed.getLsbD k = ((notices[k]?).map Notice.armed).getD false ∧
          latched.getLsbD k = ((notices[k]?).map fun c => c.latched.isSome).getD false)) ∧
  (∀ sh : Shutter, sh.conflictPause = { sh with state := match sh.state with
    | .final _ => .paused .conflict .final 0
    | .dropping _ => .paused .conflict .dropping 0
    | .held _ => .paused .conflict .final 0
    | .paused _ resume _ => .paused .conflict resume 0
    | other => other }) ∧
  (∀ s : State, s.shutters.units.length = 32 → s.link.notices.length = 12 →
    (∀ n, (conflictCheck s).unit n =
      if n < 32 ∧ s.conflictAt n = true ∧ n ∉ s.board.inConflict then (s.unit n).map Shutter.conflictPause
      else s.unit n) ∧
    (s.board.latch.isSome = true ∨ (∀ n < 32, s.conflictAt n = true → n ∈ s.board.inConflict) →
      (conflictCheck s).board.latch = s.board.latch ∧ (conflictCheck s).chain = s.chain ∧
      (conflictCheck s).link = s.link) ∧
    (∀ m < 32, s.board.latch = none → s.conflictAt m = true → m ∉ s.board.inConflict →
      ∃ n r j k, n < 32 ∧ s.conflictAt n = true ∧ n ∉ s.board.inConflict ∧ s.record n = some r ∧ r.opening? = some j ∧
        (s.openingStatus j).occupant = some k ∧ (conflictCheck s).latchedBy s n j k)) ∧
  (∀ (tag : Byte) (c : Instr) (s moved : State) (n j k : Nat) (r : ShutterRec) (sh : Shutter),
    ((∃ forward g, c = .encoderStep forward ∧ s.unconfigured = false ∧ s.store.tables.geometry = some g ∧
        s.chain.state = .running ∧ moved = { s with chain := { s.chain with
          window := if forward then min (s.chain.window + 1) 2047 else max (s.chain.window - 1) (-2047)
          p := if forward then (s.chain.p + 1) % g.length else (s.chain.p + g.length - 1) % g.length } }) ∨
      (c = .chainStart tag ∧ s.takes ∧ s.day.state = .trading ∧ s.fire.state ≠ .evacuate ∧ s.chain.state = .stopped ∧
        s.chain.driveOk = true ∧ s.chain.synced = true ∧
        moved = { s with chain := { s.chain with state := .running, restMs := 0, parked := false } })) →
    s.storeRests → s.shutters.units.length = 32 → s.link.notices.length = 12 →
    s.board.latch = none → n < 32 → n ∉ s.board.inConflict → n ∉ s.shutters.raiseQueue →
    (∀ m < 32, m ≠ n → s.outOfDoorway m) →
    s.record n = some r → r.opening? = some j → s.unit n = some sh → (moved.openingStatus j).occupant = some k →
    moved.inDoorway n = true →
    ∃ t, exec c s = .next t ∧ t.latchedBy moved n j k ∧ t.unit n = some sh.conflictPause) ∧
  (∀ s t : State, s.conflictsLatched → step s = .next t → t.conflictsLatched)

/-- RESTART is taken in every store state: its reply OK is made ready and it keeps the serving place.
RESTART_TAKES_EFFECT while that reply is being sent, and the FRAME_SENT that ends it, then stop the chain's run (R41), start the call loop
afresh (R112), empty the queues (R126), the announcements (R151) and the link (R182), and keep the Commissioning
Store, the fire stage, the shutters' inputs and the store's clock, schedule and key (R14, R80, R92, R172). A conflict latch that is set
stays with its record while its notice condition is cleared (R54). Every shutter's state, causes, count and flag and the
raise queue stay as they were when the store rests and no shutter has a move due, and no new conflict comes of it; in any
store state a shutter DROPPING, FINAL or in FAULT, out of its doorway and not queued, stays as it was (R80).
FIRST_POLL_AFTER_RESTART begins the first poll once the line has fallen quiet (R112). The order of its effects and its
two commands are log entries 22 and 23. -/
def Obligations.RestartRuns : Prop :=
  (∀ (tag : Byte) (s : State), s.serves →
    exec (.restart tag) s = .next { s with link := { s.link with
      serving := some ⟨tag, 0x07#8, .request .restart⟩
      ready := s.link.ready ++ [⟨tag, 0x87#8, [0#8], .restart⟩] } }) ∧
  (∀ s : State, (∀ r, s.link.sending = some (.reply r) → r.answers ≠ .restart) →
    exec .restartTakesEffect s = .next s) ∧
  (∀ (s : State) (reply : Reply), s.link.sending = some (.reply reply) → reply.answers = .restart →
    exec .frameSent s = exec .restartTakesEffect s ∧
    ∃ t, exec .restartTakesEffect s = .next t ∧
      t.store = s.store ∧ t.fire = s.fire ∧ t.shutters.inputs = s.shutters.inputs ∧
      t.shutters.inputsRead = s.shutters.inputsRead ∧ t.shutters.failSafe = s.shutters.failSafe ∧
      t.day.clock = s.day.clock ∧ t.day.schedule = s.day.schedule ∧ t.day.key = s.day.key ∧
      t.day.keyHold = s.day.keyHold ∧ t.pending = s.pending ∧
      t.chain.state.runs = false ∧ t.chain.p = s.chain.p ∧ t.chain.synced = s.chain.synced ∧
      t.chain.lastSlip = s.chain.lastSlip ∧ t.chain.window = s.chain.window ∧ t.chain.nPrev = s.chain.nPrev ∧
      t.chain.nLast = s.chain.nLast ∧ t.chain.driveOk = s.chain.driveOk ∧
      t.chain.stopPushes = s.chain.stopPushes ∧
      (s.chain.state.runs = true → s.chain.nPrev ≠ 0 ∨ s.chain.nLast ≠ 0 → t.chain.state = .stopping .plain) ∧
      (∀ h, s.chain.state = .halted h → t.chain.state = .halted h) ∧
      t.calls.counting.records = Queue.start ∧ t.calls.floor.records = Queue.start ∧
      t.intake = (if s.unconfigured = true ∨ s.intake.poll.isSome = true ∨ s.intake.quietWait = true
        then { Intake.start with quietWait := s.intake.poll.isSome || s.intake.quietWait }
        else { Intake.start with poll := (lowestFrom s.presence 0).map fun n => ⟨n, 0#4⟩ }) ∧
      t.link.bare = Link.start.bare ∧ t.link.arms = List.replicate 12 false ∧
      (s.storeRests → s.fire.state = .normal → t.announcer = Announcer.start ∧ t.day = s.day) ∧
      (s.board.latch.isSome = true → t.board.latch = s.board.latch ∧ (t.notice 2).latched = none) ∧
      (s.storeRests → s.shuttersSettled → t.shutters = s.shutters ∧ t.board.latch = s.board.latch) ∧
      (∀ n sh, s.unit n = some sh →
        sh.state.phase = .dropping ∨ sh.state.phase = .final ∨ sh.state.phase = .fault →
        s.outOfDoorway n → n ∉ s.shutters.raiseQueue → t.unit n = some sh)) ∧
  (∀ s : State,
    (s.intake.quietWait = false → exec .firstPollAfterRestart s = .next s) ∧
    (s.intake.quietWait = true → s.unconfigured = false → s.intake.poll = none →
      exec .firstPollAfterRestart s = .next { s with intake := { s.intake with
        quietWait := false
        fromLowest := false
        poll := (lowestFrom s.presence 0).map fun n => ⟨n, s.lampNibble n⟩ } }))

/-- The requests that only read are answered at once and change nothing: the status requests in every store state, and the
rest outside UNCONFIGURED. READ_ZONE, READ_SHUTTER, READ_FILTER and READ_CHAIN carry the record as it stands (R1, R39, R53,
R79, R93, R111, R125, R147, R149, R181), and a LOOP_STATUS reply is 141 bytes long (R175). -/
def Obligations.ReadsChangeNothing : Prop :=
  (∀ (tag a : Byte) (q : Option Byte) (s : State), s.serves →
    (∃ p, exec (.getStatus tag) s = .next (s.answered tag .getStatus (0#8 :: p))) ∧
    (∃ p, exec (.chainStatus tag) s = .next (s.answered tag .chainStatus (0#8 :: p))) ∧
    (∃ p, exec (.fireStatus tag) s = .next (s.answered tag .fireStatus (0#8 :: p))) ∧
    (∃ p, exec (.announceStatus tag) s = .next (s.answered tag .announceStatus (0#8 :: p))) ∧
    (∃ p, exec (.shutterStatus tag a) s = .next (s.answered tag (.shutterStatus a) p) ∧
      p.head? = some (if a.toNat < 32 then 0#8 else 4#8)) ∧
    (∃ p, exec (.loopStatus tag q) s = .next (s.answered tag (.loopStatus q) p) ∧
      if (q.getD 0#8).toNat < 4 then p.length = 141 ∧ p.head? = some 0#8 else p = [3#8]) ∧
    exec (.readZone tag a) s = .next (s.answered tag (.readZone a)
      (if a = 32#8 then 0#8 :: s.store.tables.site.bytes
       else if a.toNat < 32 then 0#8 :: (s.zone a.toNat).bytes else [4#8])) ∧
    exec (.readShutter tag a) s = .next (s.answered tag (.readShutter a)
      (if a.toNat < 32 then 0#8 :: shutterBytes (s.record a.toNat) else [4#8])) ∧
    exec (.readFilter tag a) s = .next (s.answered tag (.readFilter a)
      (match s.store.tables.filters[a.toNat]? with
        | some f => 0#8 :: f.bytes
        | none => [4#8])) ∧
    exec (.readChain tag) s = .next (s.answered tag .readChain
      (0#8 :: (geometryBytes s.store.tables.geometry ++ s.store.tables.landings.flatMap landingBytes)))) ∧
  (∀ (tag a : Byte) (s : State), s.takes →
    (∃ p, exec (.openingQuery tag a) s = .next (s.answered tag (.openingQuery a) p) ∧
      p.head? = some (if 32 ≤ a.toNat then 4#8 else match s.record a.toNat with
        | none => 8#8
        | some r => if r.opening?.isSome then 0#8 else 3#8)) ∧
    (∃ p, exec (.readCalls tag a) s = .next (s.answered tag (.readCalls a) p) ∧
      p.head? = some (if a.toNat < 2 then 0#8 else 4#8)) ∧
    (∃ p, exec (.readLog tag a) s = .next (s.answered tag (.readLog a) p) ∧
      p.head? = some (if 1 ≤ a.toNat ∧ a.toNat ≤ 8 then 0#8 else 3#8)))

/-- In UNCONFIGURED every request but those the rule names is answered UNCONFIGURED and has no other effect (R15, R175). -/
def Obligations.UnconfiguredRefuses : Prop :=
  ∀ (c : Instr) (tag : Byte) (r : Request) (s : State),
    c.request? = some (tag, r) → r.wellFormed = true → s.serves → s.unconfigured = true →
    r.kind ∈ [0x02, 0x03, 0x04, 0x05, 0x06, 0x20, 0x21, 0x22, 0x23, 0x25, 0x30, 0x31, 0x40, 0x41, 0x50, 0x51, 0x60,
      0x61, 0x63, 0x64, 0x70, 0x71] →
    exec c s = .next (s.answered tag r [9#8])

/-! ### The Commissioning Store (chapter 1) -/

/-- While the commissioning lock is set, nothing but a power-on reset clears it or changes a table (R12). -/
def Obligations.LockedTablesStand : Prop :=
  ∀ (c : Instr) (s t : State), s.store.lock = true → (∀ a b, c ≠ .powerOnReset a b) → exec c s = .next t →
    t.store.lock = true ∧ t.store.tables = s.store.tables

/-- LOCK_COMMISSION sets the lock when the tables are saved, no save is in progress and the store is not UNCONFIGURED;
with the lock set already it answers OK and changes nothing; in UNCONFIGURED or with the unsaved-tables flag set it is
refused with WRONG_STATE (R12). Under the lock each of the eight writes of the tables is answered LOCKED and changes
nothing. With the lock clear and a save in progress those writes, WRITE_TIMINGS, LOCK_COMMISSION and SAVE_SETTINGS,
and outside UNCONFIGURED a SET_SCHEDULE and a SET_WAKE of values in range, are answered BUSY and change nothing (R1,
R11 to R13, R154, R169). The order of the refusals of the schedule requests is log entry 17. -/
def Obligations.LockHoldsWritesBack : Prop :=
  (∀ (c : Instr) (tag : Byte) (r : Request) (s : State),
    c.request? = some (tag, r) → r.wellFormed = true → s.serves →
    (s.store.lock = true → r.writesTables = true → exec c s = .next (s.answered tag r [5#8])) ∧
    (s.store.lock = false → s.store.saving.isSome = true →
      (r.writesTables = true ∨ (∃ f, r = .writeTimings f) ∨ r = .lockCommission ∨ r = .saveSettings ∨
        (s.unconfigured = false ∧ ∃ opening closing wakeOn planOn, r = .setSchedule opening closing wakeOn planOn ∧
          (opening = 0xFFFFFF#24 ∨ opening.toNat < 86400) ∧ (closing = 0xFFFFFF#24 ∨ closing.toNat < 86400) ∧
          wakeOn.toNat < 2 ∧ planOn.toNat < 2) ∨
        (s.unconfigured = false ∧ ∃ enable clear, r = .setWake enable clear ∧ enable.toNat < 2 ∧ clear.toNat < 2)) →
      exec c s = .next (s.answered tag r [7#8]))) ∧
  (∀ (tag : Byte) (s : State), s.serves →
    (s.store.lock = true → exec (.lockCommission tag) s = .next (s.answered tag .lockCommission [0#8])) ∧
    (s.writable → s.unconfigured = true ∨ s.store.unsaved = true →
      exec (.lockCommission tag) s = .next (s.answered tag .lockCommission [6#8])) ∧
    (s.writable → s.unconfigured = false → s.store.unsaved = false →
      exec (.lockCommission tag) s =
        .next ({ s with store := { s.store with lock := true } }.answered tag .lockCommission [0#8])))

/-- WRITE_ZONE stores a zone entry whose fields are in range, an UNUSED one with night-close and hush as no, and refuses an
index above 32 with BAD_INDEX, and with BAD_VALUE a field out of range and an UNUSED type while a shutter record names the
zone; with index 32 it stores the site entry, which the Call Intake takes up at its next poll (R1, R2, R3, R94). -/
def Obligations.ZoneAndSiteWritten : Prop :=
  (∀ (tag zone type group night hush : Byte) (s : State), s.writable →
    (32 < zone.toNat → exec (.writeZone tag (.entry zone type group night hush)) s =
      .next (s.answered tag (.writeZone (.entry zone type group night hush)) [4#8])) ∧
    (zone.toNat < 32 → 5 < type.toNat ∨ 15 < group.toNat ∨
        (type ≠ 0#8 ∧ (1 < night.toNat ∨ 1 < hush.toNat)) ∨
        (type = 0#8 ∧ ∃ (x : Nat) (r : ShutterRec), some r = s.store.tables.shutters[x]?.join ∧ r.zone = zone.toNat) →
      exec (.writeZone tag (.entry zone type group night hush)) s =
        .next (s.answered tag (.writeZone (.entry zone type group night hush)) [3#8])) ∧
    (∀ kind z, zone.toNat < 32 → type.toNat = ZoneType.ctorIdx kind → group.toNat ≤ 15 →
      (kind ≠ .unused → night.toNat ≤ 1 ∧ hush.toNat ≤ 1) →
      (kind = .unused → ∀ (x : Nat) (r : ShutterRec), some r = s.store.tables.shutters[x]?.join → r.zone ≠ zone.toNat) →
      z = ⟨kind, group.toNat, kind ≠ .unused ∧ night = 1#8, kind ≠ .unused ∧ hush = 1#8⟩ →
      ∃ t, exec (.writeZone tag (.entry zone type group night hush)) s = .next t ∧
        t.steady = (s.steady.withTables { s.store.tables with
            zones := s.store.tables.zones.set zone.toNat z }).answered
          tag (.writeZone (.entry zone type group night hush)) (0#8 :: z.bytes))) ∧
  (∀ (tag : Byte) (presence : BitVec 64) (counting floor : Byte) (s : State), s.writable →
    (31 < counting.toNat ∨ 31 < floor.toNat →
      exec (.writeZone tag (.site presence counting floor)) s =
        .next (s.answered tag (.writeZone (.site presence counting floor)) [3#8])) ∧
    (counting.toNat ≤ 31 → floor.toNat ≤ 31 →
      ∃ t, exec (.writeZone tag (.site presence counting floor)) s = .next t ∧
        t.steady = { (s.steady.withTables { s.store.tables with
            site := ⟨presence, counting.toNat, floor.toNat⟩ }).answered
            tag (.writeZone (.site presence counting floor)) (0#8 :: (bytes64 presence ++ [counting, floor])) with
          intake :=
            if s.intake.poll.isSome then
              { s.intake with fromLowest := s.intake.fromLowest || presence = 0#64 }
            else if s.unconfigured || s.intake.quietWait then s.intake
            else { s.intake with
              fromLowest := false
              poll := (lowestFrom presence 0).map fun n => ⟨n, s.lampNibble n⟩ } }))

/-- WRITE_SHUTTER stores a record whose fields are in range, with its times rounded down to 100 ms and a PLAIN
record's opening and T absent, or deletes one, while the fire state is NORMAL and the position is uncommissioned or
its shutter OPEN or CLOSED (or the store UNCONFIGURED); a newly commissioned shutter takes its state from its limit
inputs, and a deleted one has no state. The refusals come in R1's order (R1, R4, R15, R58). That a shutter
with no state yet, outside UNCONFIGURED, is neither OPEN nor CLOSED is log entry 25. -/
def Obligations.ShutterWritten : Prop :=
  ∀ (tag index op zone kind opening : Byte) (t1 t : BitVec 16) (limit group : Byte) (s : State) (w : ShutterWrite)
    (r : Request),
    w = .record op zone kind opening t1 t limit group → r = .writeShutter index w → op ≠ 1#8 → s.writable →
    (32 ≤ index.toNat → exec (.writeShutter tag index w) s = .next (s.answered tag r [4#8])) ∧
    (index.toNat < 32 →
      op ≠ 0#8 ∨ 32 ≤ zone.toNat ∨ (s.zone zone.toNat).type = .unused ∨ 1 < kind.toNat ∨ t1.toNat < 500 ∨
        20000 < t1.toNat ∨ limit = 0#8 ∨ 120 < limit.toNat ∨ 3 < group.toNat ∨
        (kind = 1#8 ∧ (15 < opening.toNat ∨ s.store.tables.landings[opening.toNat / 2]?.join = none ∨ t.toNat < 500 ∨
          20000 < t.toNat)) →
      exec (.writeShutter tag index w) s = .next (s.answered tag r [3#8])) ∧
    (∀ k, index.toNat < 32 → op = 0#8 → zone.toNat < 32 → (s.zone zone.toNat).type ≠ .unused →
      500 ≤ t1.toNat → t1.toNat ≤ 20000 → 1 ≤ limit.toNat → limit.toNat ≤ 120 → group.toNat ≤ 3 →
      ((kind = 0#8 ∧ k = .plain) ∨
        (kind = 1#8 ∧ opening.toNat ≤ 15 ∧ (s.store.tables.landings[opening.toNat / 2]?.join).isSome = true ∧
          500 ≤ t.toNat ∧ t.toNat ≤ 20000 ∧ k = .opening opening.toNat (t.toNat / 100 * 100))) →
      (s.fire.state ≠ .normal → exec (.writeShutter tag index w) s = .next (s.answered tag r [10#8])) ∧
      (s.fire.state = .normal →
        (∃ old, s.record index.toNat = some old) → s.unconfigured = false →
        (∀ sh, s.unit index.toNat = some sh → sh.state ≠ .isOpen ∧ sh.state ≠ .closed) →
        exec (.writeShutter tag index w) s = .next (s.answered tag r [6#8])) ∧
      (s.fire.state = .normal →
        s.unconfigured = true ∨ s.record index.toNat = none ∨
          (∃ sh, s.unit index.toNat = some sh ∧ (sh.state = .isOpen ∨ sh.state = .closed)) →
        ∃ t', exec (.writeShutter tag index w) s = .next t' ∧
          t'.steady = (s.steady.withTables { s.store.tables with
              shutters := s.store.tables.shutters.set index.toNat
                (some ⟨zone.toNat, k, t1.toNat / 100 * 100, limit.toNat, group.toNat⟩) }).answered tag r
            (0#8 :: shutterBytes (some ⟨zone.toNat, k, t1.toNat / 100 * 100, limit.toNat, group.toNat⟩)) ∧
          (s.storeRests → s.record index.toNat = none → s.shutters.inputsRead = true →
            s.shutters.units.length = 32 → index.toNat ∉ s.shutters.raiseQueue →
            k = .plain ∨ (s.inputs index.toNat).clear = true ∨ (s.inputs index.toNat).bottom = true →
            t'.unit index.toNat = some ⟨match (s.inputs index.toNat).top, (s.inputs index.toNat).bottom with
              | true, false => .isOpen
              | false, true => .closed
              | false, false => .fault .positionUnknown 0
              | true, true => .fault .limitConflict 0, 0, false, false, false⟩))) ∧
    (index.toNat < 32 → s.fire.state = .normal →
      s.unconfigured = true ∨ s.record index.toNat = none ∨
        (∃ sh, s.unit index.toNat = some sh ∧ (sh.state = .isOpen ∨ sh.state = .closed)) →
      ∃ t', exec (.writeShutter tag index .deletion) s = .next t' ∧
        t'.steady = (s.steady.withTables { s.store.tables with
            shutters := s.store.tables.shutters.set index.toNat none }).answered tag (.writeShutter index .deletion)
          (0#8 :: shutterBytes none) ∧
        (index.toNat ∉ s.shutters.raiseQueue → t'.unit index.toNat = none))

/-- WRITE_CHAIN stores a geometry whose values are in range and which no present landing exceeds, while the chain is
STOPPED, and sets p to 0, unsynced, with the last slip absent and the parked flag clear. WRITE_LANDING stores a
landing whose positions lie below L, or makes one absent that no shutter record names, while the chain is STOPPED and
the OPENING shutters naming it are OPEN or CLOSED, or the store UNCONFIGURED (R1, R5, R6, R15). That a
shutter with no state yet, outside UNCONFIGURED, is neither is log entry 25. -/
def Obligations.ChainAndLandingWritten : Prop :=
  (∀ (tag : Byte) (f : ChainFields) (s : State) (g : Geometry), s.writable → f.offsets.length ≤ 95 →
    g = ⟨f.length.toNat, f.offsets.map BitVec.toNat, f.halfWidth.toNat, f.tolerance.toNat, f.park.toNat,
      f.stopping.toNat⟩ →
    (g.length < 2048 ∨ 60000 < g.length ∨ g.offsets.length < 2 ∨ 24 < g.offsets.length ∨ g.offsets.head? ≠ some 0 ∨
        ¬ g.offsets.Pairwise (· < ·) ∨ (∃ o ∈ g.offsets, g.length ≤ o) ∨ g.halfWidth < 10 ∨ 500 < g.halfWidth ∨
        g.tolerance = 0 ∨ g.length ≤ g.park ∨ 2000 < g.stopping ∨
        (∃ l, some l ∈ s.store.tables.landings ∧ (g.length ≤ l.up ∨ g.length ≤ l.dn)) →
      exec (.writeChain tag f) s = .next (s.answered tag (.writeChain f) [3#8])) ∧
    (2048 ≤ g.length → g.length ≤ 60000 → 2 ≤ g.offsets.length → g.offsets.length ≤ 24 → g.offsets.head? = some 0 →
      g.offsets.Pairwise (· < ·) → (∀ o ∈ g.offsets, o < g.length) → 10 ≤ g.halfWidth → g.halfWidth ≤ 500 →
      1 ≤ g.tolerance → g.park < g.length → g.stopping ≤ 2000 →
      (∀ l, some l ∈ s.store.tables.landings → l.up < g.length ∧ l.dn < g.length) →
      (s.chain.state ≠ .stopped → exec (.writeChain tag f) s = .next (s.answered tag (.writeChain f) [6#8])) ∧
      (s.chain.state = .stopped → ∃ t, exec (.writeChain tag f) s = .next t ∧
        t.steady = { (s.steady.withTables { s.store.tables with geometry := some g }).answered tag (.writeChain f)
            (0#8 :: geometryBytes (some g)) with p := 0, synced := false, lastSlip := none } ∧
        t.chain = { s.chain with p := 0, synced := false, lastSlip := none, parked := false }))) ∧
  (∀ (tag index present : Byte) (up dn : BitVec 16) (s : State) (r : Request), s.writable →
    r = .writeLanding index present up dn →
    (8 ≤ index.toNat → exec (.writeLanding tag index present up dn) s = .next (s.answered tag r [4#8])) ∧
    (index.toNat < 8 →
      1 < present.toNat ∨
        (present = 1#8 ∧ ∃ g, s.store.tables.geometry = some g ∧ (g.length ≤ up.toNat ∨ g.length ≤ dn.toNat)) ∨
        (present = 0#8 ∧ ∃ (x : Nat) (rec : ShutterRec) (j : Nat), some rec = s.store.tables.shutters[x]?.join ∧ rec.opening? = some j ∧
          j / 2 = index.toNat) →
      exec (.writeLanding tag index present up dn) s = .next (s.answered tag r [3#8])) ∧
    (∀ entry, index.toNat < 8 →
      ((present = 1#8 ∧ entry = some ⟨up.toNat, dn.toNat⟩ ∧
          ∀ g, s.store.tables.geometry = some g → up.toNat < g.length ∧ dn.toNat < g.length) ∨
        (present = 0#8 ∧ entry = none ∧ ∀ (x : Nat) (rec : ShutterRec) (j : Nat), some rec = s.store.tables.shutters[x]?.join →
          rec.opening? = some j → j / 2 ≠ index.toNat)) →
      (s.store.tables.geometry = none ∨ s.chain.state ≠ .stopped ∨
          (s.unconfigured = false ∧ ∃ n rec j, n < 32 ∧ s.record n = some rec ∧ rec.opening? = some j ∧
            j / 2 = index.toNat ∧ ∀ sh, s.unit n = some sh → sh.state ≠ .isOpen ∧ sh.state ≠ .closed) →
        exec (.writeLanding tag index present up dn) s = .next (s.answered tag r [6#8])) ∧
      ((s.store.tables.geometry).isSome = true → s.chain.state = .stopped →
        (s.unconfigured = true ∨ ∀ n rec j, n < 32 → s.record n = some rec → rec.opening? = some j →
            j / 2 = index.toNat → ∃ sh, s.unit n = some sh ∧ (sh.state = .isOpen ∨ sh.state = .closed)) →
        ∃ t, exec (.writeLanding tag index present up dn) s = .next t ∧
          t.steady = (s.steady.withTables { s.store.tables with
            landings := s.store.tables.landings.set index.toNat entry }).answered tag r
              (0#8 :: landingBytes entry))))

/-- WRITE_FILTER, WRITE_PHRASE, WRITE_FIRE_SCRIPT and WRITE_CLOSING_STEP store an entry whose fields are in range and refuse
any other with BAD_INDEX or BAD_VALUE; a closing step is refused with BAD_VALUE while its offset is another step's, and with
WRONG_STATE while the store is CLOSING (R1, R7 to R10). WRITE_TIMINGS stores every item clamped into its range, an item that is
0 for off staying 0, whether the lock is set or not, and its reply carries the set as stored (R11). -/
def Obligations.ListsAndTimingsWritten : Prop :=
  (∀ (tag index enabled kind first second action night : Byte) (s : State) (r : Request), s.writable →
    r = .writeFilter index enabled kind first second action night →
    (24 ≤ index.toNat →
      exec (.writeFilter tag index enabled kind first second action night) s = .next (s.answered tag r [4#8])) ∧
    (index.toNat < 24 → 1 < enabled.toNat ∨ 2 < kind.toNat ∨ 5 < action.toNat ∨ 1 < night.toNat →
      exec (.writeFilter tag index enabled kind first second action night) s = .next (s.answered tag r [3#8])) ∧
    (∀ (k : FilterKind) (a : Sys2Proof.Machine.Action), index.toNat < 24 → enabled.toNat ≤ 1 → night.toNat ≤ 1 → kind.toNat = FilterKind.ctorIdx k →
      action.toNat = Sys2Proof.Machine.Action.ctorIdx a →
      ∃ t, exec (.writeFilter tag index enabled kind first second action night) s = .next t ∧
        t.steady = (s.steady.withTables { s.store.tables with
            filters := s.store.tables.filters.set index.toNat
              ⟨enabled = 1#8, k, first.toNat, second.toNat, a, night = 1#8⟩ }).answered tag r
          [0#8, enabled, kind, first, second, action, night])) ∧
  (∀ (tag index : Byte) (start length : BitVec 24) (s : State), s.writable →
    (2097152 < start.toNat + length.toNat →
      exec (.writePhrase tag index start length) s = .next (s.answered tag (.writePhrase index start length) [3#8])) ∧
    (start.toNat + length.toNat ≤ 2097152 →
      ∃ t, exec (.writePhrase tag index start length) s = .next t ∧
        t.steady = (s.steady.withTables { s.store.tables with
            phrases := s.store.tables.phrases.set index.toNat ⟨start.toNat, length.toNat⟩ }).answered
          tag (.writePhrase index start length) (0#8 :: (bytes24 start ++ bytes24 length)))) ∧
  (∀ (tag index op offset : Byte) (f : ScriptFields) (s : State) (x : Script), s.writable → op ≠ 1#8 →
    f.phrases.length ≤ 193 →
    x = ⟨f.chime.toNat, f.phrases.map BitVec.toNat, f.groups, f.cls.toNat, f.marker.toNat⟩ →
    (2 ≤ index.toNat →
      exec (.writeFireScript tag index f) s = .next (s.answered tag (.writeFireScript index f) [4#8])) ∧
    (6 ≤ index.toNat → f.phrases.length ≤ 191 → exec (.writeClosingStep tag index (.step op offset f)) s =
      .next (s.answered tag (.writeClosingStep index (.step op offset f)) [4#8])) ∧
    (7 < f.chime.toNat ∨ f.phrases = [] ∨ 12 < f.phrases.length ∨ f.groups = 0#16 ∨ 7 < f.cls.toNat →
      (index.toNat < 2 →
        exec (.writeFireScript tag index f) s = .next (s.answered tag (.writeFireScript index f) [3#8])) ∧
      (index.toNat < 6 → f.phrases.length ≤ 191 → exec (.writeClosingStep tag index (.step op offset f)) s =
        .next (s.answered tag (.writeClosingStep index (.step op offset f)) [3#8]))) ∧
    (index.toNat < 6 → f.phrases.length ≤ 191 →
      op ≠ 0#8 ∨ 120 < offset.toNat ∨ (∃ k st, k < 6 ∧ k ≠ index.toNat ∧
        s.store.tables.plan[k]?.join = some st ∧ st.offset = offset.toNat) →
      exec (.writeClosingStep tag index (.step op offset f)) s =
        .next (s.answered tag (.writeClosingStep index (.step op offset f)) [3#8])) ∧
    (f.chime.toNat ≤ 7 → f.phrases ≠ [] → f.phrases.length ≤ 12 → f.groups ≠ 0#16 → f.cls.toNat ≤ 7 →
      (index.toNat < 2 → ∃ t, exec (.writeFireScript tag index f) s = .next t ∧
        t.steady = (s.steady.withTables { s.store.tables with
            scriptA := if index = 0#8 then some x else s.store.tables.scriptA
            scriptE := if index = 0#8 then s.store.tables.scriptE else some x }).answered
          tag (.writeFireScript index f) (0#8 :: x.bytes)) ∧
      (index.toNat < 6 → op = 0#8 → offset.toNat ≤ 120 →
        (∀ k st, k < 6 → k ≠ index.toNat → s.store.tables.plan[k]?.join = some st → st.offset ≠ offset.toNat) →
        (s.day.state = .closing → exec (.writeClosingStep tag index (.step op offset f)) s =
          .next (s.answered tag (.writeClosingStep index (.step op offset f)) [6#8])) ∧
        (s.day.state ≠ .closing → ∃ t, exec (.writeClosingStep tag index (.step op offset f)) s = .next t ∧
          t.steady = (s.steady.withTables { s.store.tables with
              plan := s.store.tables.plan.set index.toNat (some ⟨offset.toNat, x⟩) }).answered
            tag (.writeClosingStep index (.step op offset f)) (0#8 :: offset :: (x.bytes ++ [0#8]))))) ∧
    (index.toNat < 6 → s.day.state ≠ .closing →
      ∃ t, exec (.writeClosingStep tag index .deletion) s = .next t ∧
        t.steady = (s.steady.withTables { s.store.tables with
            plan := s.store.tables.plan.set index.toNat none }).answered
          tag (.writeClosingStep index .deletion) (0#8 :: stepBytes none))) ∧
  (∀ (tag : Byte) (f : TimingFields) (s : State) (x : Timing), s.serves → s.store.saving = none →
    x = { margin := min f.margin.toNat 5000
          dwell := max 5 (min f.dwell.toNat 60)
          gap := min f.gap.toNat 10000
          groupDelay := min f.groupDelay.toNat 30
          escCounting := if f.escCounting = 0#16 then 0 else max 30 (min f.escCounting.toNat 900)
          escFloor := if f.escFloor = 0#16 then 0 else max 30 (min f.escFloor.toNat 900)
          clearingLimit := max 1 (min f.clearingLimit.toNat 60)
          openingLimit := max 1 (min f.openingLimit.toNat 30)
          alertToEvac := if f.alertToEvac = 0#16 then 0 else max 30 (min f.alertToEvac.toNat 600)
          alertRepeat := max 30 (min f.alertRepeat.toNat 600)
          evacRepeat := max 10 (min f.evacRepeat.toNat 120)
          holdThreshold := max 1 (min f.holdThreshold.toNat 8)
          unmatchedToFloor := f.defaultAction = 1#8
          overwriteCounting := f.modeCounting = 1#8
          overwriteFloor := f.modeFloor = 1#8 } →
    ∃ t, exec (.writeTimings tag f) s = .next t ∧
      t.steady = { s.steady with store := { s.store with timing := x } }.answered tag (.writeTimings f)
        (0#8 :: x.bytes))

/-- SAVE_SETTINGS is refused with BUSY during a save and with WRONG_STATE while the geometry is absent; otherwise its
reply is owed, the serving place is free again, and the image of the tables, the timing set and the schedule is being
written, with a sequence number one above that of the newest good image, into the bank that does not hold that image.
SAVE_COMPLETE outside UNCONFIGURED makes the owed reply ready, OK or BUSY; a good one leaves the image in its bank and
clears the unsaved-tables and image-fault flags (R13, R14, R174). The operand of SAVE_COMPLETE is log entry 14. -/
def Obligations.SaveRuns : Prop :=
  (∀ (tag : Byte) (s : State), s.serves →
    (s.store.saving.isSome = true → exec (.saveSettings tag) s = .next (s.answered tag .saveSettings [7#8])) ∧
    (s.store.saving = none → s.store.tables.geometry = none →
      exec (.saveSettings tag) s = .next (s.answered tag .saveSettings [6#8])) ∧
    (∀ (intoBank1 : Bool) (sequence : Nat), s.store.saving = none → s.store.tables.geometry.isSome = true →
      ((s.store.bank0 = none ∧ s.store.bank1 = none ∧ intoBank1 = false ∧ sequence = 1) ∨
        (∃ a, s.store.bank0 = some a ∧ intoBank1 = true ∧
          sequence = (if a.sequence = 65535 then 1 else a.sequence + 1) ∧
          ∀ b, s.store.bank1 = some b →
            (b.sequence ≤ a.sequence ∧ ¬ (b.sequence = 1 ∧ a.sequence = 65535)) ∨
              (a.sequence = 1 ∧ b.sequence = 65535)) ∨
        (∃ b, s.store.bank1 = some b ∧ intoBank1 = false ∧
          sequence = (if b.sequence = 65535 then 1 else b.sequence + 1) ∧
          ∀ a, s.store.bank0 = some a →
            (a.sequence < b.sequence ∧ ¬ (a.sequence = 1 ∧ b.sequence = 65535)) ∨
              (b.sequence = 1 ∧ a.sequence = 65535))) →
      exec (.saveSettings tag) s = .next { s with
        store := { s.store with
          bank0 := if intoBank1 then s.store.bank0 else none
          bank1 := if intoBank1 then none else s.store.bank1
          saving := some ⟨intoBank1, ⟨sequence, s.store.tables, s.store.timing, s.day.schedule⟩⟩ }
        link := { s.link with owedSave := some tag } })) ∧
  (∀ (good : Bool) (s : State), s.store.saving = none → exec (.saveComplete good) s = .next s) ∧
  (∀ (good : Bool) (s : State) (job : SaveJob) (link : Link), s.store.saving = some job →
    link = (match s.link.owedSave with
      | none => s.link
      | some tag => { s.link with
        owedSave := none
        ready := s.link.ready ++ [⟨tag, 0x9E#8, if good then [0#8] else [7#8], .owedSave⟩] }) →
    (good = false → exec (.saveComplete good) s =
      .next { s with store := { s.store with saving := none }, link := link }) ∧
    (good = true → s.unconfigured = false → exec (.saveComplete good) s =
      .next { s with
        store := { s.store with
          bank0 := if job.intoBank1 then s.store.bank0 else some job.image
          bank1 := if job.intoBank1 then some job.image else s.store.bank1
          saving := none, unsaved := false, imageFault := false }
        link := link }))

/-- What a completed save has written is what the next power-on reset loads, and while it is being written a reset loads the
newest good image from before it (R13, R14). The operand of SAVE_COMPLETE is log entry 14. -/
def Obligations.SavedImageLoads : Prop :=
  ∀ (tag : Byte) (s t : State), s.serves → s.store.saving = none → s.store.tables.geometry.isSome = true →
    exec (.saveSettings tag) s = .next t →
    (∀ inBank1 a, s.store.newest? = some (inBank1, a) →
      ∃ w, exec (.powerOnReset false false) t = .next w ∧ w.store.tables = a.tables ∧ w.store.timing = a.timing ∧
        w.day.schedule = a.schedule ∧ w.store.saving = none) ∧
    ∀ u v, u.store = t.store → exec (.saveComplete true) u = .next v →
      ∃ w, exec (.powerOnReset false false) v = .next w ∧ w.store.tables = s.store.tables ∧
        w.store.timing = s.store.timing ∧ w.day.schedule = s.day.schedule ∧ w.store.unsaved = false ∧
        w.day.state = .standby

/-- A save that completes well in UNCONFIGURED moves the store to STANDBY: the fail-safe release is withdrawn, the
chain is STOPPED at p = 0, unsynced, each commissioned shutter takes its state from its limit inputs once they have
been read, the fire state is taken from the lines once both are read, polling begins with the lowest present station,
and the Commissioning Store, the clock and the schedule stand (R17, R58, R89, R91, R94). The operand of SAVE_COMPLETE is
log entry 14. The rest is the model's choice: DRIVE_OK and the key are taken as after a reset and the last-fault records are
emptied (log entry 24), a start-up read goes on (log entry 19), and NORMAL found in NORMAL gives an entry record that is present
cause START_UP and leaves an absent one absent (log entry 18). -/
def Obligations.LeavesUnconfigured : Prop :=
  ∀ (s : State) (job : SaveJob), s.unconfigured = true → s.store.saving = some job → s.fire.state = .normal →
    ∃ t, exec (.saveComplete true) s = .next t ∧
      t.store.tables = s.store.tables ∧ t.store.timing = s.store.timing ∧ t.store.lock = s.store.lock ∧
      t.store.unsaved = false ∧ t.store.saving = none ∧
      t.day = { s.day with
        state := .standby, last := ⟨some s.day.state, .save, s.day.clock⟩
        posted := [], wakeOpenNow := false, wakeTime := false, wakeKey := false, key := false, keyHold := 0
        clearingLeft := none, openingLeft := none, forced := false } ∧
      t.chain = Chain.start ∧ t.board = Board.start ∧ t.shutters.failSafe = false ∧
      t.shutters.inputs = s.shutters.inputs ∧ t.shutters.raiseQueue = [] ∧
      t.intake = { Intake.start with poll := (lowestFrom s.presence 0).map fun n => ⟨n, 0#4⟩ } ∧
      t.calls.counting.records = Queue.start ∧ t.calls.floor.records = Queue.start ∧
      t.link.arms = s.link.arms ∧ t.pending = s.pending ∧
      t.fire.alertIn = s.fire.alertIn ∧ t.fire.evacIn = s.fire.evacIn ∧ t.fire.alertFault = none ∧
      t.fire.evacFault = none ∧ t.fire.origin = none ∧ t.fire.startUp = s.fire.startUp ∧
      (s.fire.startUp = false → s.fire.evacIn = some .active →
        t.fire.state = .evacuate ∧ t.fire.entry = some ⟨.startUp, s.day.clock⟩) ∧
      (s.fire.startUp = false → s.fire.evacIn ≠ some .active → s.fire.alertIn = some .active →
        t.fire.state = .alert ∧ t.fire.entry = some ⟨.startUp, s.day.clock⟩) ∧
      (s.fire.startUp = true ∨ (s.fire.evacIn ≠ some .active ∧ s.fire.alertIn ≠ some .active) →
        t.fire = { Fire.start with
          alertIn := s.fire.alertIn, evacIn := s.fire.evacIn, startUp := s.fire.startUp
          entry := if s.fire.startUp then s.fire.entry
            else s.fire.entry.map fun _ => ⟨.startUp, s.day.clock⟩ } ∧
        ∀ n < 32, t.unit n =
          if s.shutters.inputsRead && (s.record n).isSome then
            some ⟨match (s.inputs n).top, (s.inputs n).bottom with
              | true, false => .isOpen
              | false, true => .closed
              | false, false => .fault .positionUnknown 0
              | true, true => .fault .limitConflict 0, 0, false, false, false⟩
          else none)

/-! ### The chain (chapter 2) -/

/-- CHAIN_START's checks come in the rule's order, and one that passes them takes the chain to RUNNING, or when it is unsynced
to SYNC_RUN with a count of 0; RUN comes on, the rest time is 0 and the parked flag clears (R24, R27, R35). -/
def Obligations.ChainStarts : Prop :=
  ∀ (tag : Byte) (s : State), s.takes →
    ((s.day.state ≠ .trading ∧ s.day.state ≠ .closing ∧ s.day.state ≠ .opening) ∨ s.fire.state = .evacuate ∨
        s.chain.state ≠ .stopped →
      exec (.chainStart tag) s = .next (s.answered tag .chainStart [6#8])) ∧
    (s.day.state = .trading ∨ s.day.state = .closing ∨ s.day.state = .opening → s.fire.state ≠ .evacuate →
      s.chain.state = .stopped →
      (s.board.latch.isSome = true ∨ s.chain.driveOk = false →
        exec (.chainStart tag) s = .next (s.answered tag .chainStart [7#8])) ∧
      (s.board.latch = none → s.chain.driveOk = true →
        ∃ t, exec (.chainStart tag) s = .next t ∧ t.steady = s.steady.answered tag .chainStart [0#8] ∧
          (s.doorwaysFree → s.sparesChain →
            t.chain = { s.chain with
              state := if s.chain.synced then .running else .syncRun 0, restMs := 0, parked := false })))

/-- CHAIN_STOP takes a chain in a RUN state to STOPPING with intent plain, from where a chain that is at rest already goes to
STOPPED, and changes no other; its reply is always OK (R33, R35). CHAIN_PARK takes a RUNNING chain to PARKING, from where an
unsynced one stops plainly at once and one within the stopping distance of the park position stops to park; in CLEAR_OUT and
PARKING it is OK with no change, and elsewhere WRONG_STATE (R31, R32). -/
def Obligations.ChainStopsAndParks : Prop :=
  (∀ (tag : Byte) (s : State), s.takes → ∃ t, exec (.chainStop tag) s = .next t ∧
    t.steady = s.steady.answered tag .chainStop [0#8] ∧
    (s.chain.state.runs = true → s.chain.nPrev ≠ 0 ∨ s.chain.nLast ≠ 0 →
      t.chain = { s.chain with state := .stopping .plain, restMs := 0, parked := false }) ∧
    (s.chain.state.runs = true → s.chain.nPrev = 0 → s.chain.nLast = 0 →
      t.chain = { s.chain with state := .stopped, parked := false }) ∧
    (s.chain.state.runs = false → ((∃ i, s.chain.state = .stopping i) → s.chain.moving = true) → t.chain = s.chain)) ∧
  (∀ (tag : Byte) (s : State), s.takes →
    ((∃ n, s.chain.state = .clearOut n) ∨ s.chain.state = .parking →
      exec (.chainPark tag) s = .next (s.answered tag .chainPark [0#8])) ∧
    ((∃ n, s.chain.state = .syncRun n) ∨ s.chain.state.runs = false →
      exec (.chainPark tag) s = .next (s.answered tag .chainPark [6#8])) ∧
    (s.chain.state = .running → ∃ t, exec (.chainPark tag) s = .next t ∧
      t.steady = s.steady.answered tag .chainPark [0#8] ∧
      (∀ g, s.store.tables.geometry = some g → s.doorwaysFree → s.sparesChain →
        s.chain.nPrev ≠ 0 ∨ s.chain.nLast ≠ 0 →
        t.chain = { s.chain with
          state := if s.chain.synced = false then .stopping .plain
            else if (g.park + g.length - s.chain.p) % g.length ≤ g.stopping then .stopping .park
            else .parking
          restMs := 0, parked := false })))

/-- CHAIN_RESET takes a HALTED chain to STOPPED and empties the stop-push set when the chain is at rest, DRIVE_OK is high, the
conflict latch is clear and every button in the set is released, and is refused with BUSY otherwise; in any other state it is
refused with WRONG_STATE (R38). A button is released when its station is PRESENT and the last good reply shows it so; an
ABSENT station's button, and one whose station has given no reply, counts as held (R110). -/
def Obligations.ChainResets : Prop :=
  ∀ (tag : Byte) (s : State), s.takes →
    ((∀ h, s.chain.state ≠ .halted h) →
      exec (.chainReset tag) s = .next (s.answered tag .chainReset [6#8])) ∧
    (∀ h, s.chain.state = .halted h →
      (s.chain.moving = true ∨ s.chain.driveOk = false ∨ s.board.latch.isSome = true ∨
          (∃ c < 256, s.chain.stopPushes.getLsbD c = true ∧
            ((s.intake.stations.getD (c / 4) Station.start).present = false ∨
              ∀ held, (s.intake.stations.getD (c / 4) Station.start).lastReply = some held →
                held.getLsbD (c % 4) = true)) →
        exec (.chainReset tag) s = .next (s.answered tag .chainReset [7#8])) ∧
      (s.chain.moving = false → s.chain.driveOk = true → s.board.latch = none →
        (∀ c < 256, s.chain.stopPushes.getLsbD c = true →
          (s.intake.stations.getD (c / 4) Station.start).present = true ∧
          ∃ held, (s.intake.stations.getD (c / 4) Station.start).lastReply = some held ∧
            held.getLsbD (c % 4) = false) →
        ∃ t, exec (.chainReset tag) s = .next t ∧
          t.steady = { s.steady.answered tag .chainReset [0#8] with stopPushes := 0#256 } ∧
          t.chain = { s.chain with state := .stopped, stopPushes := 0#256 }))

/-- ENCODER_STEP counts one step into the speed window, held within −2,047 to 2,047, and, while the geometry is present outside
UNCONFIGURED, moves p by one modulo L and goes on with the count in hand: a sync run that reaches 1.25 × L halts with cause
NO_INDEX, a clear-out that reaches L goes to PARKING, and a parking chain stops to park within the stopping distance (R18, R22,
R28, R30, R31, R36). -/
def Obligations.EncoderStepCounts : Prop :=
  ∀ (forward : Bool) (s : State) (window : Int),
    window = (if forward then min (s.chain.window + 1) 2047 else max (s.chain.window - 1) (-2047)) →
    (s.unconfigured = true ∨ s.store.tables.geometry = none →
      ∃ t, exec (.encoderStep forward) s = .next t ∧ t.steady = { s.steady with window := window }) ∧
    (∀ g p, s.unconfigured = false → s.store.tables.geometry = some g →
      p = (if forward then (s.chain.p + 1) % g.length else (s.chain.p + g.length - 1) % g.length) →
      ∃ t, exec (.encoderStep forward) s = .next t ∧ t.steady = { s.steady with window := window, p := p } ∧
        (s.chain.state.runs = false → ((∃ i, s.chain.state = .stopping i) → s.chain.moving = true) →
          t.chain = { s.chain with window := window, p := p }) ∧
        (∀ n, s.chain.state = .syncRun n → g.length * 5 / 4 ≤ n + 1 →
          t.chain.state = .halted ⟨.noIndex, none, .syncRun, p, s.chain.synced, s.day.clock⟩) ∧
        (s.doorwaysFree → s.sparesChain →
          (∀ n, s.chain.state = .syncRun n → n + 1 < g.length * 5 / 4 →
            t.chain = { s.chain with state := .syncRun (n + 1), window := window, p := p }) ∧
          (s.chain.state = .running → t.chain = { s.chain with window := window, p := p }) ∧
          (∀ n, s.chain.state = .clearOut n → (if forward then n + 1 else n - 1) < g.length →
            t.chain = { s.chain with
              state := .clearOut (if forward then n + 1 else n - 1), window := window, p := p }) ∧
          (s.chain.nPrev ≠ 0 ∨ s.chain.nLast ≠ 0 →
            s.chain.state = .parking ∨
              (∃ n, s.chain.state = .clearOut n ∧ g.length ≤ if forward then n + 1 else n - 1) →
            t.chain.state =
              if s.chain.synced = false then .stopping .plain
              else if (g.park + g.length - p) % g.length ≤ g.stopping then .stopping .park
              else .parking)))

/-- INDEX_PULSE makes the index check by its table, with e the value of p reduced into (−L/2, L/2]; the first check of
a sync run takes the chain to RUNNING, and a slip fault halts a chain in a RUN state with cause SLIP and leaves any
other state. With the geometry absent or in UNCONFIGURED it is ignored (R20, R28, R36). A SLIP record shows the flag
cleared (log entry 20). -/
def Obligations.IndexCheck : Prop :=
  ∀ (s : State),
    (s.unconfigured = true ∨ s.store.tables.geometry = none →
      ∃ t, exec .indexPulse s = .next t ∧ t.steady = s.steady) ∧
    (∀ g e, s.unconfigured = false → s.store.tables.geometry = some g →
      e = (if 2 * s.chain.p ≤ g.length then (s.chain.p : Int) else (s.chain.p : Int) - g.length) →
      ∃ t, exec .indexPulse s = .next t ∧
        (s.chain.synced = false →
          t.steady = { s.steady with p := 0, synced := true } ∧
          (∀ n, s.chain.state = .syncRun n → s.doorwaysFree → s.sparesChain →
            t.chain = { s.chain with state := .running, p := 0, synced := true, restMs := 0, parked := false })) ∧
        (s.chain.synced = true → e.natAbs ≤ g.tolerance →
          t.steady = { s.steady with p := 0, lastSlip := some e } ∧
          (s.chain.state = .running → s.doorwaysFree → s.sparesChain →
            t.chain = { s.chain with p := 0, lastSlip := some e })) ∧
        (s.chain.synced = true → g.tolerance < e.natAbs →
          t.steady = { s.steady with synced := false, lastSlip := some e } ∧
          (s.chain.state.runs = true →
            t.chain.state = .halted ⟨.slip, none, s.chain.state.phase, s.chain.p, false, s.day.clock⟩) ∧
          (s.chain.state.runs = false → ((∃ i, s.chain.state = .stopping i) → s.chain.moving = true) →
            t.chain = { s.chain with synced := false, lastSlip := some e })))

/-- SPEED_WINDOW_COMPLETE moves the window counts on; a STOPPING chain whose two counts are then 0 goes to STOPPED, with the
parked flag for intent park, and a count other than 0 sets the rest time to 0 and clears the parked flag (R22, R24, R35).
STEP_OFF_DWELL_ELAPSED with the chain at rest brings the rest time to the dwell: a HELD shutter at a present opening goes to
FINAL and one paused for conflict resumes (R24, R47, R48, R62, R69). -/
def Obligations.WindowAndDwell : Prop :=
  (∀ (s : State) (c : Chain), c = { s.chain with nPrev := s.chain.nLast, nLast := s.chain.window, window := 0 } →
    ∃ t, exec .speedWindowComplete s = .next t ∧
      t.steady = { s.steady with nPrev := s.chain.nLast, nLast := s.chain.window, window := 0 } ∧
      (s.chain.state.runs = false → s.chain.nLast ≠ 0 ∨ s.chain.window ≠ 0 →
        t.chain = { c with restMs := 0, parked := false }) ∧
      (∀ i, s.chain.state = .stopping i → s.chain.nLast = 0 → s.chain.window = 0 →
        t.chain = { c with state := .stopped, parked := i = .park }) ∧
      (s.chain.state.runs = false → (∀ i, s.chain.state ≠ .stopping i) → s.chain.nLast = 0 → s.chain.window = 0 →
        t.chain = c) ∧
      (s.chain.state = .running → s.doorwaysFree → s.sparesChain →
        t.chain = { c with restMs := 0, parked := false })) ∧
  (∀ s : State, s.chain.moving = true → exec .stepOffDwellElapsed s = .next s) ∧
  (∀ s : State, s.chain.moving = false → ∃ t, exec .stepOffDwellElapsed s = .next t ∧ t.steady = s.steady ∧
    ((∀ i, s.chain.state ≠ .stopping i) →
      t.chain = { s.chain with restMs := max s.chain.restMs (s.store.timing.dwell * 1000) }) ∧
    (∀ n r sh j T, n < 32 → s.storeRests → n ∉ s.shutters.raiseQueue → s.record n = some r → s.unit n = some sh →
      r.kind = .opening j T → (s.inputs n).bottom = false → (s.inputs n).edge = false →
      ((∃ mark, sh.state = .held mark) ∨ ∃ resume clear, sh.state = .paused .conflict resume clear) →
      ((s.openingStatus j).present = true → t.unit n = some { sh with state := .final (T * 3 / 2) }) ∧
      ((s.openingStatus j).present = false → (∃ resume clear, sh.state = .paused .conflict resume clear) →
        t.unit n = some { sh with state := .held false })))

/-- The chain speed is 2 × (n_prev + n_last) pulses per second when that sum is positive and 0 otherwise; with each count
within −2,047 to 2,047 it lies in 0 to 8,188, and it changes only as a window completes, at a reset, or as the chain starts
afresh when a good save takes the store out of UNCONFIGURED (R17, R22, R23, R40). The operand of SAVE_COMPLETE is log entry
14. -/
def Obligations.ChainSpeed : Prop :=
  (∀ c : Chain,
    (0 < c.nPrev + c.nLast → (c.speed : Int) = 2 * (c.nPrev + c.nLast)) ∧
    (c.nPrev + c.nLast ≤ 0 → c.speed = 0) ∧
    (c.nPrev.natAbs ≤ 2047 → c.nLast.natAbs ≤ 2047 → c.speed ≤ 8188)) ∧
  (∀ (c : Instr) (s t : State), exec c s = .next t → t.chain.speed ≠ s.chain.speed →
    c = .speedWindowComplete ∨ (∃ a b, c = .powerOnReset a b) ∨ (∃ a b, c = .pinReset a b) ∨
      (c = .saveComplete true ∧ s.unconfigured = true))

/-- DRIVE_OK_CHANGE to low halts a chain in a RUN state with cause DRIVE and changes no other chain state; to high it changes
none; an unchanged level has no effect (R26, R36). SYNC_RUN_LIMIT halts a SYNC_RUN chain with cause NO_INDEX, and
CLEAR_OUT_COMPLETE takes a CLEAR_OUT chain to PARKING, where the park test is made; in other states they have no effect (R28,
R30, R31). That these two act whatever their count held is the model's choice (log entry 3). -/
def Obligations.HaltEvents : Prop :=
  (∀ (high : Bool) (s : State),
    (s.chain.driveOk = high → exec (.driveOkChange high) s = .next s) ∧
    (s.chain.driveOk ≠ high → ∃ t, exec (.driveOkChange high) s = .next t ∧
      t.steady = { s.steady with driveOk := high } ∧
      (high = false → s.chain.state.runs = true →
        t.chain.state = .halted ⟨.drive, none, s.chain.state.phase, s.chain.p, s.chain.synced, s.day.clock⟩ ∧
        (s.chain.nPrev ≠ 0 ∨ s.chain.nLast ≠ 0 → t.chain.restMs = 0)) ∧
      (s.chain.state.runs = false → ((∃ i, s.chain.state = .stopping i) → s.chain.moving = true) →
        t.chain = { s.chain with driveOk := high }))) ∧
  (∀ s : State, ((∀ n, s.chain.state ≠ .syncRun n) → exec .syncRunLimit s = .next s) ∧
    ∀ n, s.chain.state = .syncRun n → ∃ t, exec .syncRunLimit s = .next t ∧ t.steady = s.steady ∧
      t.chain.state = .halted ⟨.noIndex, none, .syncRun, s.chain.p, s.chain.synced, s.day.clock⟩) ∧
  (∀ s : State, ((∀ n, s.chain.state ≠ .clearOut n) → exec .clearOutComplete s = .next s) ∧
    ∀ n, s.chain.state = .clearOut n → ∃ t, exec .clearOutComplete s = .next t ∧ t.steady = s.steady ∧
      ∀ g, s.store.tables.geometry = some g → s.doorwaysFree → s.sparesChain →
        s.chain.nPrev ≠ 0 ∨ s.chain.nLast ≠ 0 →
        t.chain.state =
          if s.chain.synced = false then .stopping .plain
          else if (g.park + g.length - s.chain.p) % g.length ≤ g.stopping then .stopping .park
          else .parking)

/-! ### Boarding clearance (chapter 3) -/

/-- Every step keeps RUN off while the conflict latch is set and in the store states UNCONFIGURED, STANDBY, SHUTTING, SHUT and
WAKING (R15, R25, R27, R51, R160 to R163). -/
def Obligations.RunStaysGuarded : Prop := ∀ s t : State, s.runGuarded → step s = .next t → t.runGuarded

/-- A shutter enters FINAL only as an OPENING shutter, and only at a moment when either its opening is present and unoccupied,
the chain synced and the time to entry at least T + M, or the chain has been at rest for the step-off dwell (R47, R48). -/
def Obligations.FinalOnlyWhenClear : Prop :=
  ∀ (c : Instr) (s t : State) (n left : Nat) (sh : Shutter), exec c s = .next t →
    t.unit n = some sh → sh.state = .final left →
    (∀ old before, s.unit n = some old → old.state ≠ .final before) →
    ∃ r j T, t.record n = some r ∧ r.kind = .opening j T ∧ (t.openingStatus j).present = true ∧
      ((t.chain.synced = true ∧ (t.openingStatus j).occupant = none ∧
          ∃ a, (t.openingStatus j).approach = some a ∧ T + t.store.timing.margin ≤ a.time) ∨
        (t.chain.nPrev = 0 ∧ t.chain.nLast = 0 ∧ t.chain.state.runs = false ∧
          t.store.timing.dwell * 1000 ≤ t.chain.restMs))

/-- The status of a present opening. It is occupied exactly when some cabin floor c_k = (o_k + p) mod L has
(c_k − (a − w)) mod L ≤ 2w, whether the chain is synced or not (R19, R43). When it is unoccupied its entry distance d is the
smallest ((a − w) − c_k) mod L, lies in 1 to L − 1 and is the nearest cabin's, and the time to entry is floor(d × 1000 ÷ v) ms,
held at 65,535, or 65,535 when v is 0; when it is occupied these are absent (R44, R45). -/
def Obligations.EntryDistance : Prop :=
  ∀ (s : State) (j : Nat) (g : Geometry) (l : Landing) (a : Nat) (c : Nat → Int),
    s.unconfigured = false → s.store.tables.geometry = some g → s.store.tables.landings[j / 2]?.join = some l →
    a = (if j % 2 = 0 then l.up else l.dn) → a < g.length → g.halfWidth < g.length → g.offsets ≠ [] →
    (∀ k, c k = (((g.offsets.getD k 0 + s.chain.p) % g.length : Nat) : Int)) →
    (s.openingStatus j).present = true ∧
    ((s.openingStatus j).occupant.isSome = true ↔
      ∃ k < g.offsets.length, (c k - ((a : Int) - g.halfWidth)) % g.length ≤ 2 * g.halfWidth) ∧
    ((s.openingStatus j).occupant.isSome = true → (s.openingStatus j).approach = none) ∧
    ((s.openingStatus j).occupant = none → ∃ d k : Nat, k < g.offsets.length ∧
      (d : Int) = (((a : Int) - g.halfWidth) - c k) % g.length ∧ 1 ≤ d ∧ d < g.length ∧
      (∀ i < g.offsets.length, (d : Int) ≤ (((a : Int) - g.halfWidth) - c i) % g.length ∧
        (i < k → (d : Int) < (((a : Int) - g.halfWidth) - c i) % g.length)) ∧
      (s.openingStatus j).approach = some ⟨d, k,
        if s.chain.speed = 0 then 65535 else min (d * 1000 / s.chain.speed) 65535⟩)

/-! ### Fire shutters (chapter 4) -/

/-- A lower order has the effect of its table in each state (R59). A shutter that enters DROPPING goes to CLOSED when
BOTTOM is active, to HELD with the mark clear when it is OPENING with CLEAR inactive, to a pause or at the third
obstruction to FAULT when EDGE is active, and otherwise falls with the phase limit 1.5 × T1 (R60, R61, R65).
SHUTTER_LOWER gives that order, and its reply carries the state the shutter is then in; an index above 31 is refused
with BAD_INDEX and an uncommissioned position with EMPTY (R78). The order of inputs active together is log entry 15,
and a shutter with no state yet log entry 16. -/
def Obligations.LowerOrders : Prop :=
  (∀ (n : Nat) (r : ShutterRec) (sh dropped : Shutter) (s : State),
    s.record n = some r → s.unit n = some sh →
    dropped = (if (s.inputs n).bottom then { sh with state := .closed, obstructions := 0 }
      else if r.opening? ≠ none ∧ (s.inputs n).clear = false then { sh with state := .held false }
      else if (s.inputs n).edge then
        (if sh.obstructions < 2 then
          { sh with state := .paused .obstruction .dropping 0, obstructions := sh.obstructions + 1 }
        else { sh with state := .fault .obstructed 0, obstructions := 3 })
      else { sh with state := .dropping (r.dropTime * 3 / 2) }) →
    (sh.state.phase ≠ .isOpen → sh.state.phase ≠ .raising → sh.state.phase ≠ .raiseWait → lowerOrder n s = s) ∧
    (sh.state.phase = .isOpen ∨ sh.state.phase = .raising ∨ sh.state.phase = .raiseWait →
      (lowerOrder n s).unit n = some dropped ∧ (∀ m, m ≠ n → (lowerOrder n s).unit m = s.unit m) ∧
      (lowerOrder n s).steady = s.steady ∧
      (lowerOrder n s).shutters.raiseQueue =
        (if sh.state.phase = .raiseWait then s.shutters.raiseQueue.filter (· ≠ n) else s.shutters.raiseQueue) ∧
      ∀ (tag index : Byte), index.toNat = n → n < 32 → s.takes →
        s.storeRests → (n ∈ s.shutters.raiseQueue → sh.state.phase = .raiseWait) → dropped.state.phase ≠ .held →
        ∃ t, exec (.shutterLower tag index) s = .next t ∧ t.unit n = some dropped)) ∧
  (∀ (tag index : Byte) (s : State), s.takes →
    (32 ≤ index.toNat → exec (.shutterLower tag index) s = .next (s.answered tag (.shutterLower index) [4#8])) ∧
    (index.toNat < 32 → s.record index.toNat = none →
      exec (.shutterLower tag index) s = .next (s.answered tag (.shutterLower index) [8#8])) ∧
    (∀ r, index.toNat < 32 → s.record index.toNat = some r →
      ∃ t, exec (.shutterLower tag index) s = .next t ∧
        t.steady = s.steady.answered tag (.shutterLower index) [0#8,
          match t.unit index.toNat with
          | some sh => BitVec.ofNat 8 sh.state.phase.ctorIdx
          | none => 0xFF#8] ∧
        (∀ sh, t.unit index.toNat = some sh → s.storeRests → index.toNat ∉ s.shutters.raiseQueue →
          sh.state.phase ≠ .isOpen)))

/-- SHUTTER_RAISE is checked in the rule's order, and its reply carries the shutter's state and its place in the raise
queue with every result (R70, R78). An accepted raise sets the obstruction count to 0 and joins the queue; the arbiter
takes it on at once to RAISING, or to OPEN when TOP is active, while fewer than four shutters are RAISING (R70 to
R72). A shutter with no state yet is log entry 16. -/
def Obligations.RaiseOrders : Prop :=
  ∀ (tag index : Byte) (s : State) (n : Nat), s.takes → n = index.toNat →
    (32 ≤ n → exec (.shutterRaise tag index) s = .next (s.answered tag (.shutterRaise index) [4#8])) ∧
    (n < 32 → s.record n = none →
      exec (.shutterRaise tag index) s = .next (s.answered tag (.shutterRaise index)
        (8#8 :: (s.shutterState n ++ opt8 (s.raisePlace n))))) ∧
    (n < 32 → s.record n ≠ none →
      s.fire.state = .evacuate ∨ (s.fire.state = .alert ∧ ∃ sh, s.unit n = some sh ∧ sh.fireOrdered = true) →
      exec (.shutterRaise tag index) s = .next (s.answered tag (.shutterRaise index)
        (10#8 :: (s.shutterState n ++ opt8 (s.raisePlace n))))) ∧
    (n < 32 → s.record n ≠ none → s.fire.state ≠ .evacuate →
      (s.fire.state = .alert → ∀ sh, s.unit n = some sh → sh.fireOrdered = false) →
      ((s.day.state = .shutting ∨ s.day.state = .shut ∨ s.day.state = .waking) ∧ s.nightClose n = true) ∨
        s.unit n = none ∨
        (∃ sh, s.unit n = some sh ∧ (sh.state.phase = .dropping ∨ sh.state.phase = .held ∨ sh.state.phase = .final ∨
          sh.state.phase = .paused ∨ ∃ t, sh.state = .fault .limitConflict t)) →
      exec (.shutterRaise tag index) s = .next (s.answered tag (.shutterRaise index)
        (6#8 :: (s.shutterState n ++ opt8 (s.raisePlace n))))) ∧
    (∀ r sh, n < 32 → s.record n = some r → s.unit n = some sh → s.fire.state ≠ .evacuate →
      (s.fire.state = .alert → sh.fireOrdered = false) →
      (s.day.state = .shutting ∨ s.day.state = .shut ∨ s.day.state = .waking → s.nightClose n = false) →
      sh.state.phase = .isOpen ∨ sh.state.phase = .raiseWait ∨ sh.state.phase = .raising ∨ sh.state.phase = .closed ∨
        (∃ cause t, sh.state = .fault cause t ∧ cause ≠ .limitConflict) →
      ∃ t, exec (.shutterRaise tag index) s = .next t ∧
        t.steady = s.steady.answered tag (.shutterRaise index)
          (0#8 :: (t.shutterState n ++ opt8 (t.raisePlace n))) ∧
        (s.storeRests → s.shutters.raiseQueue = [] →
          sh.state.phase = .closed ∨ sh.state.phase = .fault →
          (s.raisingCount < 4 →
            t.shutters.raiseQueue = [] ∧
            t.unit n = some { sh with
              state := if (s.inputs n).top then .isOpen else .raising (r.raiseLimit * 1000)
              obstructions := 0 }) ∧
          (4 ≤ s.raisingCount →
            t.shutters.raiseQueue = [n] ∧ t.unit n = some { sh with state := .raiseWait, obstructions := 0 })))

/-- SHUTTER_FIRST_READING takes the 32 positions' inputs and gives each commissioned shutter its state from its
limits, once after a reset (R58). SHUTTER_INPUT_CHANGE changes one input from then on: BOTTOM active ends a descent, a
wait or a pause in CLOSED with the obstruction count 0; CLEAR inactive brakes an OPENING shutter in DROPPING at the
clear line, HELD with the mark set, or in FINAL at once when it is clear; EDGE active pauses a descent, or takes it to
FAULT at the third obstruction, and restarts an edge-clear or retry time; TOP active ends a raise in OPEN (R55, R60 to
R63, R65 to R67, R73). The inputs before the first reading are log entry 26, and the orders that wait for it log entry
16. -/
def Obligations.ShutterInputs : Prop :=
  (∀ (top bottom clear edge : BitVec 32) (s : State),
    (s.shutters.inputsRead = true → exec (.shutterFirstReading top bottom clear edge) s = .next s) ∧
    (s.shutters.inputsRead = false → ∃ t, exec (.shutterFirstReading top bottom clear edge) s = .next t ∧
      t.steady = { s.steady with
        inputs := (List.range 32).map fun n => ⟨top.getLsbD n, bottom.getLsbD n, clear.getLsbD n, edge.getLsbD n⟩
        inputsRead := true } ∧
      (s.storeRests → s.shutters.raiseQueue = [] → s.shutters.units.length = 32 →
        ∀ n < 32, s.record n ≠ none →
          t.unit n = some ⟨match top.getLsbD n, bottom.getLsbD n with
            | true, false => .isOpen
            | false, true => .closed
            | false, false => .fault .positionUnknown 0
            | true, true => .fault .limitConflict 0, 0, false, false, false⟩))) ∧
  (∀ (n : Fin 32) (line : InputLine) (active : Bool) (s : State) (i : Inputs),
    i = (match line with
      | .top => { s.inputs n with top := active }
      | .bottom => { s.inputs n with bottom := active }
      | .clear => { s.inputs n with clear := active }
      | .edge => { s.inputs n with edge := active }) →
    (s.shutters.inputsRead = false ∨ i = s.inputs n → exec (.shutterInputChange n line active) s = .next s) ∧
    (s.shutters.inputsRead = true → i ≠ s.inputs n →
      ∃ t, exec (.shutterInputChange n line active) s = .next t ∧
        t.steady = { s.steady with inputs := s.shutters.inputs.set n i } ∧
        ∀ r sh, s.storeRests → (n : Nat) ∉ s.shutters.raiseQueue → s.shutters.inputs.length = 32 →
          s.record n = some r → s.unit n = some sh →
          (line = .bottom → active = true →
            sh.state.phase = .dropping ∨ sh.state.phase = .held ∨ sh.state.phase = .final ∨ sh.state.phase = .paused →
            t.unit n = some { sh with state := .closed, obstructions := 0 }) ∧
          (line = .clear → active = false → i.bottom = false → i.edge = false → r.opening? ≠ none →
            sh.state.phase = .dropping → s.chain.state = .stopped ∨ s.chain.state = .running →
            t.unit n = some { sh with state := if s.clearFor r then .final (r.finalTime * 3 / 2) else .held true }) ∧
          (line = .edge → active = true → i.bottom = false → s.conflictAt n = false →
            s.chain.state = .stopped ∨ s.chain.state = .running →
            (sh.state.phase = .dropping → i.clear = true ∨ r.opening? = none →
              t.unit n = some (if sh.obstructions < 2 then
                { sh with state := .paused .obstruction .dropping 0, obstructions := sh.obstructions + 1 }
              else { sh with state := .fault .obstructed 0, obstructions := 3 })) ∧
            (sh.state.phase = .final →
              t.unit n = some (if sh.obstructions < 2 then
                { sh with state := .paused .obstruction .final 0, obstructions := sh.obstructions + 1 }
              else { sh with state := .fault .obstructed 0, obstructions := 3 })) ∧
            (∀ resume time, sh.state = .paused .obstruction resume time →
              t.unit n = some { sh with state := .paused .obstruction resume 0 }) ∧
            (∀ cause time, sh.state = .fault cause time → t.unit n = some { sh with state := .fault cause 0 })) ∧
          (line = .top → active = true → sh.state.phase = .raising →
            t.unit n = some { sh with state := .isOpen, obstructions := 0 }) ∧
          (sh.state.phase = .isOpen ∨ sh.state.phase = .closed → t.unit n = some sh)))

/-- SLOW_DROP, SLOW_FINAL and RAISE_TIMEOUT end a drop, a final descent and a raise in FAULT with their causes (R60, R61, R63,
R73), OBSTRUCTION_RESUME ends an obstruction pause once EDGE is inactive, in DROPPING entered afresh, or in HELD with the mark
clear, from where a shutter that is clear goes on to FINAL (R66), and OBSTRUCTED_RETRY drops a shutter in FAULT OBSTRUCTED afresh
during EVACUATE when an order of the present fire names it and EDGE is inactive (R67). Each has no effect in any other state.
The model's choice are the order BOTTOM, CLEAR of inputs active together (log entry 15), that a group order lets a shutter retry
only where it reached it and while its zone is not STAIR (log entry 38), and that each of these events acts whatever time is
left (log entry 3). -/
def Obligations.ShutterTimes : Prop :=
  ∀ (n : Fin 32) (s : State),
    (s.record n = none ∨ s.unit n = none →
      exec (.slowDrop n) s = .next s ∧ exec (.slowFinal n) s = .next s ∧ exec (.raiseTimeout n) s = .next s ∧
      exec (.obstructionResume n) s = .next s ∧ exec (.obstructedRetry n) s = .next s) ∧
    ∀ r sh dropped, s.record n = some r → s.unit n = some sh →
      dropped = (if (s.inputs n).bottom then { sh with state := .closed, obstructions := 0 }
        else if r.opening? ≠ none ∧ (s.inputs n).clear = false then { sh with state := .held false }
        else { sh with state := .dropping (r.dropTime * 3 / 2) }) →
      (sh.state.phase ≠ .dropping → exec (.slowDrop n) s = .next s) ∧
      (sh.state.phase = .dropping → ∃ t, exec (.slowDrop n) s = .next t ∧ t.steady = s.steady ∧
        ((n : Nat) ∉ s.shutters.raiseQueue → t.unit n = some { sh with state := .fault .slowDrop 0 })) ∧
      (sh.state.phase ≠ .final → exec (.slowFinal n) s = .next s) ∧
      (sh.state.phase = .final → ∃ t, exec (.slowFinal n) s = .next t ∧ t.steady = s.steady ∧
        ((n : Nat) ∉ s.shutters.raiseQueue → t.unit n = some { sh with state := .fault .slowFinal 0 })) ∧
      (sh.state.phase ≠ .raising → exec (.raiseTimeout n) s = .next s) ∧
      (sh.state.phase = .raising → ∃ t, exec (.raiseTimeout n) s = .next t ∧ t.steady = s.steady ∧
        ((n : Nat) ∉ s.shutters.raiseQueue → t.unit n = some { sh with state := .fault .raiseTimeout 0 })) ∧
      ((∀ resume time, sh.state ≠ .paused .obstruction resume time) ∨ (s.inputs n).edge = true →
        exec (.obstructionResume n) s = .next s) ∧
      (∀ resume time, sh.state = .paused .obstruction resume time → (s.inputs n).edge = false →
        ∃ t, exec (.obstructionResume n) s = .next t ∧ t.steady = s.steady ∧
          (s.storeRests → (n : Nat) ∉ s.shutters.raiseQueue →
            (resume = .dropping → dropped.state.phase ≠ .held → s.conflictAt n = false →
              s.chain.state = .stopped ∨ s.chain.state = .running → t.unit n = some dropped) ∧
            (resume = .final → (s.inputs n).bottom = false → s.conflictAt n = false →
              s.chain.state = .stopped ∨ s.chain.state = .running →
              t.unit n = some { sh with
                state := if s.clearFor r then .final (r.finalTime * 3 / 2) else .held false }))) ∧
      (((∀ time, sh.state ≠ .fault .obstructed time) ∨ s.fire.state ≠ .evacuate ∨ s.retryOrdered n = false ∨
          (s.inputs n).edge = true) → exec (.obstructedRetry n) s = .next s) ∧
      (∀ time, sh.state = .fault .obstructed time → s.fire.state = .evacuate → (s.inputs n).edge = false →
        (sh.groupOrdered = true ∧ (s.zone r.zone).type ≠ .stair) ∨
          (sh.originOrdered = true ∧ s.fire.origin = some (r.zone / 4)) →
        ∃ t, exec (.obstructedRetry n) s = .next t ∧ t.steady = s.steady ∧
          (s.storeRests → (n : Nat) ∉ s.shutters.raiseQueue → dropped.state.phase ≠ .held →
            s.conflictAt n = false → s.chain.state = .stopped ∨ s.chain.state = .running →
            t.unit n = some { dropped with obstructions := 0 }))

/-- Every step keeps the Shutter Controller's promises: the raise queue holds shutters in RAISE_WAIT, each at most once (R71), only
commissioned shutters run and none before the first reading (R4, R15, R58), none is RAISING in EVACUATE (R72, R75), and from SHUTTING until
the store opens no night-close shutter is OPEN, RAISE_WAIT or RAISING (R76, R163). -/
def Obligations.ShuttersStaySound : Prop :=
  ∀ s t : State, s.shaped → s.shuttersSound → step s = .next t → t.shuttersSound

/-! ### Fire stages (chapter 5) -/

/-- FIRE_LINE_READING_CHANGE. A reading is taken; a change into a fault writes the line's last-fault record and raises
LINE_FAULT (R81, R82). In service ALERT_IN turned ACTIVE in NORMAL is ALERT entry, which sets the escalation timer (R84, R86),
and EVAC_IN turned ACTIVE outside EVACUATE is EVACUATE entry, which discards it and starts the group schedule (R85, R87); each
writes the entry record and raises FIRE_STAGE (R83). In UNCONFIGURED the fire state stays, and EVAC_IN ACTIVE starts the
fail-safe release (R16, R91). ALERT entry lowers and fire-orders every shutter of a STOCK_ROOM zone, leaves the other flags, the
chain and the store as they are, gives a host or closing run in hand DEFER and makes script A due (R74, R84, R139). EVACUATE
entry, by the line or by the escalation timer, stops every raise, lowers group 0 outside the STAIR zones, or every group with a
group delay of 0, and leaves an OPEN shutter not ordered as it is (R75, R87), sends a RUNNING or SYNC_RUN chain to CLEAR_OUT
(R29, R85), takes the store from TRADING, CLOSING and OPENING to CLEARING and from WAKING to SHUT with cause FIRE (R171), and cuts
the run in hand that is not E's, frees and records the slots and the waiting step, and starts E (R140, R141). -/
def Obligations.FireLines : Prop :=
  (∀ (s : State), s.unconfigured = false → s.fire.startUp = false → s.fire.state = .normal →
    s.fire.alertIn ≠ some .active →
    ∃ t, exec (.fireLineReadingChange .alertIn .active) s = .next t ∧
      (∀ n r sh, n < 32 → s.record n = some r → s.unit n = some sh → (s.zone r.zone).type = .stockRoom →
        (n ∈ s.shutters.raiseQueue → sh.state.phase = .raiseWait) →
        ∃ sh', t.unit n = some sh' ∧ sh'.fireOrdered = true ∧ sh'.state.phase ≠ .isOpen ∧
          sh'.state.phase ≠ .raiseWait ∧ sh'.state.phase ≠ .raising) ∧
      (∀ n r sh, n < 32 → s.record n = some r → s.unit n = some sh → (s.zone r.zone).type ≠ .stockRoom →
        ∃ sh', t.unit n = some sh' ∧ sh'.fireOrdered = sh.fireOrdered) ∧
      (s.storeRests → t.day = s.day ∧
        (s.doorwaysFree → s.chain.state = .stopped ∨ s.chain.state = .running → t.chain = s.chain) ∧
        (s.announcer.player ≠ .idle → s.announcer.player ≠ .gap 0 → t.announcer = { s.announcer with
          runsA := 0, runsE := 0, dueA := s.store.tables.scriptA.isSome, dueE := false, timerE := none
          timerA := some (s.store.timing.alertRepeat * 1000)
          player := match s.announcer.player with
            | .chime run ms => .chime (run.deferred) ms
            | .phrase run place entry left => .phrase run.deferred place entry left
            | other => other }) ∧
        (∀ a, s.announcer.player = .idle → s.store.tables.scriptA = some a → 1 ≤ a.chime →
          t.announcer = { s.announcer with
            runsA := 1, runsE := 0, dueA := false, dueE := false, timerE := none
            timerA := some (s.store.timing.alertRepeat * 1000)
            player := .chime ⟨.scriptA, a, 0, 0, 0, s.day.clock, none⟩ 0 }))) ∧
  (∀ (c : Instr) (s : State) (withdrawn : List LogRec), s.unconfigured = false →
    (c = .fireLineReadingChange .evacIn .active ∧ s.fire.startUp = false ∧ s.fire.state ≠ .evacuate ∧
        s.fire.evacIn ≠ some .active) ∨
      (c = .escalationTimeout ∧ s.fire.state = .alert ∧ s.fire.escalation ≠ none) →
    withdrawn = ((List.range 9).flatMap fun n => match s.slot n with
      | .pending post run _ => [⟨.slot n, post.script.marker, .withdrawn, run, none, s.day.clock, 0, 0⟩]
      | .repeatWait post run _ => [⟨.slot n, post.script.marker, .withdrawn, run, none, s.day.clock, 0, 0⟩]
      | _ => []) ++
      (match s.announcer.waiting with
        | some script => [⟨.slot 8, script.marker, .superseded, 0, none, s.day.clock, 0, 0⟩]
        | none => []) →
    ∃ t, exec c s = .next t ∧ t.shutters.raiseQueue = [] ∧
      (∀ n r sh, n < 32 → s.record n = some r → s.unit n = some sh →
        ∃ sh', t.unit n = some sh' ∧ sh'.fireOrdered = sh.fireOrdered ∧
          sh'.state.phase ≠ .raiseWait ∧ sh'.state.phase ≠ .raising ∧
          (r.group = 0 ∨ (s.store.timing.groupDelay = 0 ∧ r.group ≤ 3) → (s.zone r.zone).type ≠ .stair →
            sh'.groupOrdered = true ∧ sh'.state.phase ≠ .isOpen) ∧
          ((r.group ≠ 0 ∧ s.store.timing.groupDelay ≠ 0) ∨ (s.zone r.zone).type = .stair →
            sh'.groupOrdered = false ∧
            (sh.state = .isOpen → s.nightClose n = false → sh' = { sh with groupOrdered := false }))) ∧
      (s.doorwaysFree → s.storeRests ∨ s.day.state = .opening ∨ s.day.state = .clearing →
        s.chain.state = .running ∨ (∃ count, s.chain.state = .syncRun count) →
        t.chain = { s.chain with state := .clearOut 0, restMs := 0, parked := false }) ∧
      (s.doorwaysFree → s.storeRests → s.chain.state = .stopped → s.calls.counting.calls ≠ [] →
        t.chain = s.chain) ∧
      (s.day.state = .trading ∨ s.day.state = .closing ∨ s.day.state = .opening →
        s.calls.counting.calls ≠ [] ∨ s.calls.floor.calls ≠ [] →
        t.day = { s.day with
          state := .clearing, last := ⟨some s.day.state, .fire, s.day.clock⟩, posted := []
          forced := false, clearingLeft := some (s.store.timing.clearingLimit * 60000), openingLeft := none }) ∧
      (s.day.state = .waking → t.day = { s.day with
        state := .shut, last := ⟨some .waking, .fire, s.day.clock⟩ }) ∧
      (s.day.state = .standby ∨ s.day.state = .shut ∨
        (s.day.state = .clearing ∧ s.calls.counting.calls ≠ []) → t.day = s.day) ∧
      (s.announcer.slots.length = 9 → s.announcer.log.length ≤ 16 →
        (∀ n post run, s.slot n = .playing post run → ∃ r, s.announcer.player.run? = some r ∧ r.source = .slot n) →
        (∀ r n, s.announcer.player.run? = some r → r.source = .slot n → ∃ post run, s.slot n = .playing post run) →
        (∀ e, s.store.tables.scriptE = some e → 1 ≤ e.chime) →
        t.announcer.slots = List.replicate 9 .free ∧ t.announcer.waiting = none ∧ t.announcer.dueA = false ∧
        t.announcer.timerA = none ∧ t.announcer.timerE = none ∧ t.announcer.runsA = 0 ∧
        (∀ r, s.announcer.player.run? = some r → r.source ≠ .scriptE →
          t.announcer.log = (s.announcer.log ++ ⟨r.source, r.script.marker, .preempted, r.number, r.start, s.day.clock,
            r.played, r.skipped⟩ :: withdrawn).take 16) ∧
        (∀ r, s.announcer.player.run? = some r → r.source = .scriptE →
          t.announcer.player = s.announcer.player ∧ t.announcer.dueE = s.store.tables.scriptE.isSome ∧
          t.announcer.log = (s.announcer.log ++ withdrawn).take 16) ∧
        (s.announcer.player.run? = none → t.announcer.log = (s.announcer.log ++ withdrawn).take 16) ∧
        ((∀ r, s.announcer.player.run? = some r → r.source ≠ .scriptE) →
          (s.store.tables.scriptE = none → t.announcer.player = .idle) ∧
          (∀ e, s.store.tables.scriptE = some e → t.announcer.dueE = false ∧ t.announcer.runsE = 1 ∧
            t.announcer.player = .chime ⟨.scriptE, e, 0, 0, 0, s.day.clock, none⟩ 0)))) ∧
  ∀ (line : Line) (reading : Reading) (s : State) (taken : Fire) (told : Steady),
    taken = (match line, reading with
      | .alertIn, .openFault => { s.fire with alertIn := some reading, alertFault := some ⟨false, s.day.clock⟩ }
      | .alertIn, .shortFault => { s.fire with alertIn := some reading, alertFault := some ⟨true, s.day.clock⟩ }
      | .alertIn, _ => { s.fire with alertIn := some reading }
      | .evacIn, .openFault => { s.fire with evacIn := some reading, evacFault := some ⟨false, s.day.clock⟩ }
      | .evacIn, .shortFault => { s.fire with evacIn := some reading, evacFault := some ⟨true, s.day.clock⟩ }
      | .evacIn, _ => { s.fire with evacIn := some reading }) →
    told = (match reading with
      | .openFault => s.steady.tell 1 (u8 line.ctorIdx ++ [0#8] ++ opt24 s.day.clock)
      | .shortFault => s.steady.tell 1 (u8 line.ctorIdx ++ [1#8] ++ opt24 s.day.clock)
      | _ => s.steady) →
    (s.fire.reading line = some reading →
      ∃ t, exec (.fireLineReadingChange line reading) s = .next t ∧ t.steady = s.steady) ∧
    (s.fire.reading line ≠ some reading → s.unconfigured = true →
      s.fire.startUp = false ∨ taken.alertIn = none ∨ taken.evacIn = none →
      ∃ t, exec (.fireLineReadingChange line reading) s = .next t ∧
        t.steady = { told with
          fire := taken, failSafe := s.shutters.failSafe || (line = .evacIn && reading = .active) }) ∧
    (s.fire.reading line ≠ some reading → s.unconfigured = false → s.fire.startUp = false →
      ∃ t, exec (.fireLineReadingChange line reading) s = .next t ∧
        (reading ≠ .active ∨ (line = .alertIn ∧ s.fire.state ≠ .normal) ∨ (line = .evacIn ∧ s.fire.state = .evacuate) →
          t.steady = { told with fire := taken }) ∧
        (reading = .active → line = .alertIn → s.fire.state = .normal →
          t.steady = ({ s.steady with fire := { taken with
            state := .alert, entry := some ⟨.alertLine, s.day.clock⟩
            escalation := if s.store.timing.alertToEvac = 0 then none
              else some (s.store.timing.alertToEvac * 1000) } }).tell 0 ([1#8, 0#8] ++ opt24 s.day.clock)) ∧
        (reading = .active → line = .evacIn → s.fire.state ≠ .evacuate →
          t.steady = ({ s.steady with fire := { taken with
            state := .evacuate, entry := some ⟨.evacLine, s.day.clock⟩, escalation := none
            schedule := some ⟨s.store.timing.groupDelay, if s.store.timing.groupDelay = 0 then 4 else 1,
              s.store.timing.groupDelay * 1000⟩ } }).tell 0 ([2#8, 1#8] ++ opt24 s.day.clock)))

/-- The start-up read: a line's first reading is only taken; once both lines have one the read ends and the fire state
is set from the lines, EVACUATE before ALERT before NORMAL, with cause START_UP; a line that has not settled in time
is taken as OPEN_FAULT (R89, R91). NORMAL found with NORMAL held gives an entry record that is present cause START_UP and
leaves an absent one absent (log entry 18). -/
def Obligations.StartUpRead : Prop :=
  (∀ (line : Line) (s : State),
    (s.fire.startUp = true → s.fire.reading line = none →
      exec (.startupReadTimeout line) s = exec (.fireLineReadingChange line .openFault) s) ∧
    (s.fire.startUp = false ∨ s.fire.reading line ≠ none →
      ∃ t, exec (.startupReadTimeout line) s = .next t ∧ t.steady = s.steady)) ∧
  ∀ (line : Line) (reading : Reading) (s : State) (a e : Option Reading), s.fire.startUp = true →
    s.fire.reading line ≠ some reading →
    a = (if line = .alertIn then some reading else s.fire.alertIn) →
    e = (if line = .evacIn then some reading else s.fire.evacIn) →
    ∃ t, exec (.fireLineReadingChange line reading) s = .next t ∧
      t.fire.alertIn = a ∧ t.fire.evacIn = e ∧ t.store = s.store ∧ t.intake = s.intake ∧ t.day.clock = s.day.clock ∧
      t.calls.counting.records = s.calls.counting.records ∧ t.calls.floor.records = s.calls.floor.records ∧
      (t.fire.startUp = true ↔ (a = none ∨ e = none)) ∧
      ((a = none ∨ e = none) ∨ s.unconfigured = true →
        t.fire.state = s.fire.state ∧ t.fire.entry = s.fire.entry ∧ t.fire.origin = s.fire.origin) ∧
      (a.isSome = true → e.isSome = true → s.unconfigured = false →
        (e = some .active → t.fire.state = .evacuate ∧ t.fire.entry = some ⟨.startUp, s.day.clock⟩) ∧
        (e ≠ some .active → a = some .active →
          t.fire.state = .alert ∧ t.fire.entry = some ⟨.startUp, s.day.clock⟩) ∧
        (e ≠ some .active → a ≠ some .active → t.fire.state = .normal ∧
          t.fire.entry = (if s.fire.state = .normal then s.fire.entry.map fun _ => ⟨.startUp, s.day.clock⟩
            else some ⟨.startUp, s.day.clock⟩)))

/-- FIRE_REPORT sets the origin floor, flags every commissioned shutter on it as fire-ordered and leaves none of them OPEN,
waiting for a raise or RAISING, and it leaves the flags of the other floors' shutters as they are (R74, R88); FIRE_RESET returns
the fire state to NORMAL when both lines read NORMAL, and clears the fire-ordered flags (R77, R90); ESCALATION_TIMEOUT in ALERT
is EVACUATE entry (R86); EVAC_GROUP_DUE moves the schedule on by one group, and leaves no shutter of that group outside the
STAIR zones OPEN, waiting for a raise or RAISING (R75, R87). Their refusals stand as the rules give them. -/
def Obligations.FireTimersAndReports : Prop :=
  (∀ (tag floor : Byte) (s : State), s.takes →
    (7 < floor.toNat → exec (.fireReport tag floor) s = .next (s.answered tag (.fireReport floor) [3#8])) ∧
    (floor.toNat ≤ 7 → s.fire.startUp = true →
      exec (.fireReport tag floor) s = .next (s.answered tag (.fireReport floor) [7#8])) ∧
    (floor.toNat ≤ 7 → s.fire.startUp = false → s.fire.state = .normal →
      exec (.fireReport tag floor) s = .next (s.answered tag (.fireReport floor) [6#8])) ∧
    (floor.toNat ≤ 7 → s.fire.startUp = false → s.fire.state ≠ .normal →
      ∃ t, exec (.fireReport tag floor) s = .next t ∧
        t.steady = { s.steady.answered tag (.fireReport floor) [0#8, floor] with
          fire := { s.fire with origin := some floor.toNat } } ∧
        (∀ n r sh, n < 32 → s.record n = some r → r.zone / 4 = floor.toNat → s.unit n = some sh →
          ∃ sh', t.unit n = some sh' ∧ sh'.fireOrdered = true ∧ ((n ∈ s.shutters.raiseQueue → sh.state.phase = .raiseWait) →
            sh'.state.phase ≠ .isOpen ∧ sh'.state.phase ≠ .raiseWait ∧ sh'.state.phase ≠ .raising)) ∧
        (∀ n r sh, n < 32 → s.record n = some r → r.zone / 4 ≠ floor.toNat → s.unit n = some sh →
          ∃ sh', t.unit n = some sh' ∧ sh'.fireOrdered = sh.fireOrdered))) ∧
  (∀ (tag : Byte) (s : State), s.takes →
    (s.fire.startUp = true → exec (.fireReset tag) s = .next (s.answered tag .fireReset [7#8])) ∧
    (s.fire.startUp = false → s.fire.state = .normal →
      exec (.fireReset tag) s = .next (s.answered tag .fireReset [0#8])) ∧
    (s.fire.startUp = false → s.fire.state ≠ .normal →
      s.fire.alertIn ≠ some .normal ∨ s.fire.evacIn ≠ some .normal →
      exec (.fireReset tag) s = .next (s.answered tag .fireReset [7#8])) ∧
    (s.fire.startUp = false → s.fire.state ≠ .normal → s.fire.alertIn = some .normal → s.fire.evacIn = some .normal →
      ∃ t, exec (.fireReset tag) s = .next t ∧
        t.steady = ({ s.steady with fire := { s.fire with
          state := .normal, entry := some ⟨.reset, s.day.clock⟩, origin := none, escalation := none
          schedule := none } }.tell 0 ([0#8, 3#8] ++ opt24 s.day.clock)).answered tag .fireReset [0#8] ∧
        ∀ n sh, t.unit n = some sh → sh.fireOrdered = false)) ∧
  (∀ s : State,
    (s.fire.state ≠ .alert ∨ s.fire.escalation = none →
      ∃ t, exec .escalationTimeout s = .next t ∧ t.steady = s.steady) ∧
    (s.fire.state = .alert → s.fire.escalation ≠ none →
      ∃ t, exec .escalationTimeout s = .next t ∧
        t.steady = ({ s.steady with fire := { s.fire with
          state := .evacuate, entry := some ⟨.escalation, s.day.clock⟩, escalation := none
          schedule := some ⟨s.store.timing.groupDelay, if s.store.timing.groupDelay = 0 then 4 else 1,
            s.store.timing.groupDelay * 1000⟩ } }).tell 0 ([2#8, 2#8] ++ opt24 s.day.clock))) ∧
  (∀ s : State,
    (s.fire.schedule = none ∨ (∃ g, s.fire.schedule = some g ∧ 4 ≤ g.next) →
      ∃ t, exec .evacGroupDue s = .next t ∧ t.steady = s.steady) ∧
    (∀ g, s.fire.schedule = some g → g.next < 4 →
      ∃ t, exec .evacGroupDue s = .next t ∧
        t.steady = { s.steady with fire := { s.fire with schedule := some ⟨g.delay, g.next + 1,
          if g.next < 3 then g.delay * 1000 else 0⟩ } } ∧
        (s.fire.state = .evacuate → s.shutters.raiseQueue = [] →
          ∀ n r sh, n < 32 → s.record n = some r → r.group = g.next → (s.zone r.zone).type ≠ .stair →
            t.unit n = some sh →
            sh.groupOrdered = true ∧ sh.state.phase ≠ .isOpen ∧ sh.state.phase ≠ .raiseWait ∧
              sh.state.phase ≠ .raising)))

/-- With the nine slots of R127 every step keeps it that in EVACUATE a playing run is script E's, no host or closing slot is
PENDING or in REPEAT_WAIT, and no closing step waits (R132, R141). -/
def Obligations.EvacuationSpeaks : Prop :=
  ∀ s t : State, s.shaped → s.evacuationSpeaks → step s = .next t → t.evacuationSpeaks

/-! ### Staff calls (chapters 6 and 7) -/

/-- The end of a poll (R96). Its outcome changes the polled station's entry (R98), the error counter, the recovery count and
with them the loop state (R99 to R101), and raises LOOP_STATE when the loop state or the station's presence changes (R102); in
LOOP_OFF the presses are discarded and counted (R100, R109). The next poll goes at that moment to the lowest station of the
presence set above the one just polled, or else to the lowest, and none is sent while the set is empty (R94). A good reply with
presses outside LOOP_OFF stands under PressFiled. Nothing else changes. A poll is sent as three bytes: the station with 0x80,
its lamp nibble, and the byte that brings their sum to 0 modulo 256 (R96). -/
def Obligations.PollOutcomes : Prop :=
  (∀ poll : Poll, poll.station < 64 → ∃ station lamps check : Byte, poll.bytes = [station, lamps, check] ∧
    station.toNat = 128 + poll.station ∧ lamps.toNat = poll.lamps.toNat ∧ station + lamps + check = 0#8) ∧
  (∀ (bytes : List Byte) (stop : Bool) (s : State), s.intake.poll = none ∨ bytes = [] →
    exec (.pollReplyEnd bytes stop) s = .next s) ∧
  (∀ s : State, s.intake.poll = none → exec .pollReplyTimeout s = .next s) ∧
  (∀ (c : Instr) (s : State) (poll : Poll) (old new : Station) (counter was became : Nat) (recovery : Option Nat)
      (discarded : Nat),
    s.intake.poll = some poll → old = s.intake.stations.getD poll.station Station.start →
    s.intake.discarded ≤ 65535 →
    ((∃ bytes stop, c = .pollReplyEnd bytes stop ∧ bytes ≠ [] ∧
        (stop = false ∨ bytes.length ≠ 3 ∨ (bytes.headD 0#8).toNat ≠ poll.station ∨ bytes.foldl (· + ·) 0#8 ≠ 0#8) ∧
        new = { old with missed := 0, corrupt := min (old.corrupt + 1) 65535 } ∧ discarded = s.intake.discarded ∧
        ((s.intake.recovery = none ∧ s.intake.counter + 8 ≤ 255 ∧ counter = s.intake.counter + 8 ∧ recovery = none) ∨
          (s.intake.recovery = none ∧ 255 < s.intake.counter + 8 ∧ counter = 255 ∧ recovery = some 0) ∨
          (s.intake.recovery.isSome = true ∧ counter = s.intake.counter ∧ recovery = some 0))) ∨
      (c = .pollReplyTimeout ∧ discarded = s.intake.discarded ∧ counter = s.intake.counter ∧
        recovery = s.intake.recovery ∧
        new = { old with
          missed := min (old.missed + 1) 3
          present := old.present && decide (old.missed + 1 < 3)
          missing := min (old.missing + 1) 65535 }) ∨
      (∃ a b x, c = .pollReplyEnd [a, b, x] true ∧ a.toNat = poll.station ∧ a + b + x = 0#8 ∧
        new = { old with missed := 0, present := true, lastReply := some (b.extractLsb' 0 4) } ∧
        ((s.intake.recovery = none ∧ b.extractLsb' 4 4 = 0#4 ∧ counter = s.intake.counter - 1 ∧ recovery = none ∧
            discarded = s.intake.discarded) ∨
          (∃ r, s.intake.recovery = some r ∧
            discarded = min (s.intake.discarded + ([4, 5, 6, 7].filter b.getLsbD).length) 65535 ∧
            ((r + 1 = 128 ∧ counter = 0 ∧ recovery = none) ∨
              (r + 1 ≠ 128 ∧ counter = s.intake.counter ∧ recovery = some (r + 1))))))) →
    was = (if s.intake.recovery.isSome then 2 else if s.intake.counter < 96 then 0 else 1) →
    became = (if recovery.isSome then 2 else if counter < 96 then 0 else 1) →
    ∃ next : Option Nat,
      exec c s = .next { s with
        intake := { s.intake with
          stations := s.intake.stations.set poll.station new
          counter := counter, recovery := recovery, discarded := discarded
          poll := next.map fun n => ⟨n, s.lampNibble n⟩
          fromLowest := false }
        link := if new.present = old.present ∧ became = was then s.link
          else (raise .loopState (u8 became ++ u8 counter ++
            if new.present = old.present then [0xFF#8, 0xFF#8]
            else u8 poll.station ++ u8 (if new.present then 0 else 1)) s).link } ∧
      (next = none → s.presence = 0#64) ∧
      ∀ n, next = some n → s.presence.getLsbD n = true ∧
        (s.intake.fromLowest = true ∨ (∀ m, poll.station < m → s.presence.getLsbD m = false) →
          ∀ m < n, s.presence.getLsbD m = false) ∧
        (s.intake.fromLowest = false → (∃ m, poll.station < m ∧ s.presence.getLsbD m = true) →
          poll.station < n ∧ ∀ m, poll.station < m → m < n → s.presence.getLsbD m = false))

/-- Every poll that begins carries the lamp nibble that shows exactly the codes of its station standing in either queue at
that moment (R95). That the presses of the reply which ends a poll are taken before the next poll is sent, so that its lamps show
them, is the model's choice (log entry 42). -/
def Obligations.LampsShowQueues : Prop :=
  ∀ (c : Instr) (s t : State) (poll : Poll), exec c s = .next t → t.intake.poll = some poll →
    s.intake.poll ≠ some poll ∨ (∃ b bytes stop, c = .pollReplyEnd (b :: bytes) stop) ∨ c = .pollReplyTimeout →
    ∀ b < 4, (poll.lamps.getLsbD b = true ↔
      ∃ r, r.code = 4 * poll.station + b ∧ (r ∈ t.calls.counting.calls ∨ r ∈ t.calls.floor.calls))

/-- A press is tested against the enabled filter entries in index order, in SHUT against those with the night field only, and
the first that matches decides; one that none matches is taken by the default unmatched action, or turned away in SHUT; in
EVACUATE an ordinary call is turned away (R7, R103 to R106). The action taken hands a record to its queue, and a CHAIN_STOP a
stop push to the chain, which halts it or joins the stop-push set; the last-press record and the counts follow (R36, R37, R107
to R109). The presses of a good reply outside LOOP_OFF are taken so in ascending button order, after the poll's outcome
(R96, R103). -/
def Obligations.PressFiled : Prop :=
  (∀ (station button code : Nat) (s filed : State) (filter : Option Nat)
      (decided taken : Sys2Proof.Machine.Action) (matched : FilterEntry → Prop),
    code = 4 * station + button →
    (∀ f, matched f ↔ f.enabled = true ∧ (s.day.state = .shut → f.night = true) ∧
      ((f.kind = .range ∧ f.first ≤ code ∧ code ≤ f.second) ∨ (f.kind = .pair ∧ (code = f.first ∨ code = f.second)) ∨
        (f.kind = .mask ∧ code &&& f.second = f.first &&& f.second))) →
    ((∃ i f, filter = some i ∧ s.store.tables.filters[i]? = some f ∧ matched f ∧ decided = f.action ∧
        ∀ k < i, ∀ g, s.store.tables.filters[k]? = some g → ¬ matched g) ∨
      (filter = none ∧ (∀ f ∈ s.store.tables.filters, ¬ matched f) ∧
        decided = if s.day.state ≠ .shut ∧ s.store.timing.unmatchedToFloor = true then .toFloor else .reject)) →
    taken = (if s.fire.state = .evacuate ∧ (decided = .toCounting ∨ decided = .toFloor) then .reject else decided) →
    filed = (match taken with
      | .toCounting => arriveCall .counting ⟨code, filter, false, false, 0, s.day.clock⟩ false s
      | .toFloor => arriveCall .floor ⟨code, filter, false, false, 0, s.day.clock⟩ false s
      | .urgentCounting => arriveCall .counting ⟨code, filter, true, false, 0, s.day.clock⟩ false s
      | .urgentFloor => arriveCall .floor ⟨code, filter, true, false, 0, s.day.clock⟩ false s
      | .chainStop => arriveCall .counting ⟨code, filter, true, false, 0, s.day.clock⟩ false s
      | .reject => s) →
    (press station button s).steady = { filed.steady with
      intake := { s.intake with
        lastPress := some ⟨station, button, code, filter, decided, taken, s.day.clock⟩
        accepted := if taken = .reject then s.intake.accepted else min (s.intake.accepted + 1) 65535
        rejected := if taken = .reject then min (s.intake.rejected + 1) 65535 else s.intake.rejected }
      stopPushes := if taken = .chainStop then s.chain.stopPushes ||| BitVec.twoPow 256 code
        else s.chain.stopPushes } ∧
    (taken = .chainStop → (∀ h, s.chain.state ≠ .halted h) →
      (press station button s).chain.state =
        .halted ⟨.stopPush, some code, s.chain.state.phase, s.chain.p, s.chain.synced, s.day.clock⟩) ∧
    (∀ h, s.chain.state = .halted h → (press station button s).chain.state = .halted h)) ∧
  (∀ (a b x : Byte) (s u : State) (poll : Poll) (old new : Station),
    s.intake.poll = some poll → s.intake.recovery = none → a.toNat = poll.station → a + b + x = 0#8 →
    old = s.intake.stations.getD poll.station Station.start →
    new = { old with missed := 0, present := true, lastReply := some (b.extractLsb' 0 4) } →
    u = { s with
      intake := { s.intake with
        stations := s.intake.stations.set poll.station new
        counter := s.intake.counter - 1 }
      link := if old.present = true ∧ s.intake.counter ≠ 96 then s.link
        else (raise .loopState ((if s.intake.counter - 1 < 96 then [0#8] else [1#8]) ++ u8 (s.intake.counter - 1) ++
          if old.present then [0xFF#8, 0xFF#8] else u8 poll.station ++ [0#8]) s).link } →
    ∃ t v, exec (.pollReplyEnd [a, b, x] true) s = .next t ∧
      v = ([0, 1, 2, 3].filter fun k => b.getLsbD (4 + k)).foldl (fun s k => press poll.station k s) u ∧
      t = { v with intake := { v.intake with poll := t.intake.poll, fromLowest := false } })

/-- A record arriving at a queue merges into the standing record of its code, and raises CALL_URGENT only when that turns
urgent; otherwise it takes the tail slot, raises CALL or CALL_URGENT and starts the escalation timer of an empty queue; a full
queue in overwrite mode loses its head record and counts it, in blocking mode the arrival, and raises CALL_LOST (R113 to R115,
R118). Only the two queues and the notice conditions change. -/
def Obligations.QueueArrival : Prop :=
  ∀ (q : QueueName) (c appended : Call) (copy : Bool) (s : State) (x : Queue) (data : Nat → Call → List Byte),
    x = s.queue q → appended = { c with repeats := 0, escalated := copy } →
    (∀ slot r, data slot r = u8 q.ctorIdx ++ u8 slot ++ u8 r.code ++ [if r.urgent then 1#8 else 0#8] ++
      [if r.escalated then 1#8 else 0#8]) →
    arriveCall q c copy s =
      { s with calls := (arriveCall q c copy s).calls, link := (arriveCall q c copy s).link } ∧
    (∀ i old new, x.calls[i]? = some old → old.code = c.code →
      (∀ k < i, ∀ r, x.calls[k]? = some r → r.code ≠ c.code) →
      new = { old with
        repeats := min (old.repeats + 1) 15, urgent := old.urgent || c.urgent, escalated := old.escalated || copy } →
      (arriveCall q c copy s).steady =
        if new.urgent = true ∧ old.urgent = false then
          (s.steady.withQueue q { x with calls := x.calls.set i new }).tell 2 (data ((x.head + i) % 8) new)
        else s.steady.withQueue q { x with calls := x.calls.set i new }) ∧
    ((∀ r ∈ x.calls, r.code ≠ c.code) →
      (x.calls.length < 8 →
        (arriveCall q c copy s).steady =
          (s.steady.withQueue q { x with
            calls := x.calls ++ [appended]
            timer := if x.calls ≠ [] then x.timer
              else if s.escalationTime q = 0 then none else some (s.escalationTime q * 1000) }).tell
            (if c.urgent then 2 else 3) (data ((x.head + x.calls.length) % 8) appended)) ∧
      (∀ oldest rest, x.calls = oldest :: rest → x.calls.length = 8 → s.overwrites q = true →
        (arriveCall q c copy s).steady =
          ((s.steady.withQueue q { x with
            head := (x.head + 1) % 8, calls := rest ++ [appended], displaced := min (x.displaced + 1) 65535 }).tell
            4 (u8 q.ctorIdx ++ u8 oldest.code ++ [1#8])).tell
            (if c.urgent then 2 else 3) (data (x.head % 8) appended)) ∧
      (x.calls.length = 8 → s.overwrites q = false →
        (arriveCall q c copy s).steady =
          (s.steady.withQueue q { x with lost := min (x.lost + 1) 65535 }).tell
            4 (u8 q.ctorIdx ++ u8 c.code ++ [0#8])))

/-- ACK_CALLS removes the records from the head slot through the named slot, and is refused with BAD_INDEX for another queue
and a slot that holds no record, with BAD_VALUE for another expected code (R116). A local acknowledgement removes the head
record and is counted (R117). Both restart the escalation timer, or stop it with an empty queue (R118). When that timer runs
out, the head record arrives at the other queue as an escalation copy, the original stays, and the timer restarts (R119). -/
def Obligations.AckAndEscalate : Prop :=
  (∀ (tag queue slot : Byte) (expected : Option Byte) (s : State) (r : Request), s.takes →
    r = .ackCalls queue slot expected →
    (2 ≤ queue.toNat ∨ 8 ≤ slot.toNat → exec (.ackCalls tag queue slot expected) s = .next (s.answered tag r [4#8])) ∧
    (∀ (q : QueueName) (x : Queue) (i : Nat), queue.toNat = q.ctorIdx → x = s.queue q → x.head < 8 → i < 8 →
      slot.toNat = (x.head + i) % 8 →
      (x.calls.length ≤ i → exec (.ackCalls tag queue slot expected) s = .next (s.answered tag r [4#8])) ∧
      (∀ c e, x.calls[i]? = some c → expected = some e → e.toNat ≠ c.code →
        exec (.ackCalls tag queue slot expected) s = .next (s.answered tag r [3#8])) ∧
      (∀ c, x.calls[i]? = some c → (∀ e, expected = some e → e.toNat = c.code) →
        ∃ t, exec (.ackCalls tag queue slot expected) s = .next t ∧
          t.steady = (s.steady.withQueue q { x with
            head := (x.head + (i + 1)) % 8
            calls := x.calls.drop (i + 1)
            timer := if x.calls.length = i + 1 ∨ s.escalationTime q = 0 then none
              else some (s.escalationTime q * 1000) }).answered tag r
              (0#8 :: (u8 (i + 1) ++ u8 ((x.head + (i + 1)) % 8) ++ u8 (x.calls.length - (i + 1))))))) ∧
  (∀ (q : QueueName) (s : State) (x : Queue), x = s.queue q →
    (s.unconfigured = true ∨ x.calls = [] →
      ∃ t, exec (.localAcknowledge q) s = .next t ∧ t.steady = s.steady) ∧
    (∀ c rest, s.unconfigured = false → x.calls = c :: rest →
      ∃ t, exec (.localAcknowledge q) s = .next t ∧
        t.steady = s.steady.withQueue q { x with
          head := (x.head + 1) % 8
          calls := rest
          timer := if rest = [] ∨ s.escalationTime q = 0 then none else some (s.escalationTime q * 1000)
          localAcks := min (x.localAcks + 1) 65535 })) ∧
  (∀ (q other : QueueName) (s : State) (x : Queue), x = s.queue q → other ≠ q →
    (x.timer = none ∨ x.calls = [] →
      ∃ t, exec (.callEscalationTimeout q) s = .next t ∧ t.steady = s.steady) ∧
    (∀ c rest, x.timer ≠ none → x.calls = c :: rest →
      ∃ t, exec (.callEscalationTimeout q) s = .next t ∧
        t.steady = (arriveCall other c true s).steady.withQueue q { x with
          timer := if s.escalationTime q = 0 then none else some (s.escalationTime q * 1000) }))

/-- ANNUNCIATOR_GROUP_END: after the first and second group, after the third of an urgent head's pattern, and after a change of
head, a gap follows, otherwise the pattern wait, and with an empty queue silence (R120 to R122). ANNUNCIATOR_GROUP_DUE: the
next group is struck, a first group by the head's code, unless the head is not urgent and speech plays to the hushed zone of
the annunciator, when it waits in HUSH_WAIT (R120, R124). A local acknowledgement changes the head: a group in hand is struck
on, an abandoned gap or wait leads to the new head's first group 1,000 ms after the last group's end, or to silence (R122). The
striker is on in the first 150 ms of each 400 ms of a group being struck and off at all other times (R120). -/
def Obligations.Annunciators : Prop :=
  (∀ x : Queue,
    (∀ code g ms changed, x.pattern = .striking code g ms changed →
      (x.striker = true ↔ ∃ strike < strikes code g, 400 * strike ≤ ms ∧ ms < 400 * strike + 150)) ∧
    ((∀ code g ms changed, x.pattern ≠ .striking code g ms changed) → x.striker = false)) ∧
  ∀ (q : QueueName) (s : State) (x : Queue) (z : Zone), x = s.queue q →
    z = s.zone (match q with | .counting => s.store.tables.site.counting | .floor => s.store.tables.site.floor) →
    ((∀ code g ms changed, x.pattern ≠ .striking code g ms changed) →
      ∃ t, exec (.annunciatorGroupEnd q) s = .next t ∧ t.steady = s.steady) ∧
    (∀ code g ms changed, x.pattern = .striking code g ms changed →
      ∃ t, exec (.annunciatorGroupEnd q) s = .next t ∧
        t.steady = s.steady.withQueue q { x with sinceGroup := some 0 } ∧
        (t.queue q).pattern = match x.calls with
          | [] => .silent
          | h :: _ =>
            if changed then .groupGap ⟨none, 1⟩
            else if g < 3 then .groupGap ⟨some code, g + 1⟩
            else if h.urgent then .groupGap ⟨some code, 1⟩
            else .patternWait ⟨some code, 1⟩) ∧
    ((∀ next, x.pattern ≠ .groupGap next ∧ x.pattern ≠ .patternWait next) →
      ∃ t, exec (.annunciatorGroupDue q) s = .next t ∧ t.steady = s.steady) ∧
    (∀ next h rest, x.pattern = .groupGap next ∨ x.pattern = .patternWait next → x.calls = h :: rest →
      ∃ t, exec (.annunciatorGroupDue q) s = .next t ∧
        t.steady = s.steady.withQueue q { x with sinceGroup := x.sinceGroup.map (max 1000) } ∧
        (h.urgent = true ∨ z.hush = false ∨
            (∀ r, s.announcer.player.run? = some r → r.script.groups.getLsbD z.group = false) →
          (t.queue q).pattern =
            .striking (if next.group = 1 then h.code else next.code.getD h.code) next.group 0 false) ∧
        (∀ r, h.urgent = false → z.hush = true → s.announcer.player.run? = some r →
          r.script.groups.getLsbD z.group = true → s.storeRests → (t.queue q).pattern = .hushWait next)) ∧
    (∀ h rest, s.unconfigured = false → x.calls = h :: rest →
      ∃ t, exec (.localAcknowledge q) s = .next t ∧
        (∀ code g ms changed, x.pattern = .striking code g ms changed →
          (t.queue q).pattern = .striking code g ms true) ∧
        (∀ next ms, x.pattern = .groupGap next ∨ x.pattern = .patternWait next → x.sinceGroup = some ms → ms < 1000 →
          rest ≠ [] → (t.queue q).pattern = .groupGap ⟨none, 1⟩) ∧
        ((∀ code g ms changed, x.pattern ≠ .striking code g ms changed) → rest = [] →
          (t.queue q).pattern = .silent))

/-! ### Announcements (chapter 8) -/

/-- POST_ANNOUNCEMENT's checks come in the rule's order; an accepted post makes its slot PENDING with run number 0 and its
interval clamped, its start arrived when it was given as now or is the clock's value, and its reply carries the script as stored
and the slot state (R128, R129); one that is eligible with the player IDLE is chosen at once (R131, R132). CANCEL_ANNOUNCEMENT
acts by its slot's state and by the request the run already has (R137, R138). The code 3 of SUPERSEDING is the model's
choice (log entry 9), and so is the start that the reply of an accepted post carries, as it was sent, between the interval and
the slot state (log entry 40). -/
def Obligations.PostAndCancel : Prop :=
  (∀ (tag slot : Byte) (f : PostFields) (s : State) (r : Request) (post : Post) (start : Option Nat) (n : Nat),
    s.takes → r = .postAnnouncement slot f → f.script.phrases.length ≤ 187 → n = slot.toNat →
    post = ⟨⟨f.script.chime.toNat, f.script.phrases.map BitVec.toNat, f.script.groups, f.script.cls.toNat,
      f.script.marker.toNat⟩, f.repeats.toNat, some (max 10 (min f.interval.toNat 3600))⟩ →
    start = (if f.start = 0xFFFFFF#24 then none else some f.start.toNat) →
    (8 ≤ n → exec (.postAnnouncement tag slot f) s = .next (s.answered tag r [4#8])) ∧
    (n < 8 →
      7 < f.script.chime.toNat ∨ f.script.phrases = [] ∨ 12 < f.script.phrases.length ∨ f.script.groups = 0#16 ∨
        7 < f.script.cls.toNat ∨ 9 < f.repeats.toNat ∨ (∃ u, start = some u ∧ 86400 ≤ u) →
      exec (.postAnnouncement tag slot f) s = .next (s.answered tag r [3#8])) ∧
    (n < 8 → f.script.chime.toNat ≤ 7 → f.script.phrases ≠ [] → f.script.phrases.length ≤ 12 →
      f.script.groups ≠ 0#16 → f.script.cls.toNat ≤ 7 → f.repeats.toNat ≤ 9 → (∀ u, start = some u → u < 86400) →
      (s.fire.state = .evacuate → exec (.postAnnouncement tag slot f) s = .next (s.answered tag r [10#8])) ∧
      (s.fire.state ≠ .evacuate → s.day.state = .shut →
        exec (.postAnnouncement tag slot f) s = .next (s.answered tag r [6#8])) ∧
      (s.fire.state ≠ .evacuate → s.day.state ≠ .shut → start ≠ none → s.day.clock = none →
        exec (.postAnnouncement tag slot f) s = .next (s.answered tag r [11#8])) ∧
      (s.fire.state ≠ .evacuate → s.day.state ≠ .shut → start = none ∨ s.day.clock ≠ none → s.slot n ≠ .free →
        exec (.postAnnouncement tag slot f) s = .next (s.answered tag r [7#8])) ∧
      (s.fire.state ≠ .evacuate → s.day.state ≠ .shut → start = none ∨ s.day.clock ≠ none → s.slot n = .free →
        ∃ t, exec (.postAnnouncement tag slot f) s = .next t ∧
          t.steady = s.steady.answered tag r
            (0#8 :: (post.script.bytes ++ [f.repeats] ++ u16 (max 10 (min f.interval.toNat 3600)) ++ bytes24 f.start ++
              u8 (t.slot n).code)) ∧
          (s.storeRests → s.announcer.player ≠ .idle → s.announcer.player ≠ .gap 0 →
            t.announcer = { s.announcer with
              slots := s.announcer.slots.set n (.pending post 0 (if start = s.day.clock then none else start)) }) ∧
          (s.storeRests → s.announcer.player = .idle → s.announcer.slots.length = 9 → s.fire.state = .normal →
            (∀ x ∈ s.announcer.slots, ∀ other run, x ≠ .pending other run none) →
            start = none ∨ start = s.day.clock → 1 ≤ post.script.chime →
            t.announcer = { s.announcer with
              slots := s.announcer.slots.set n (.playing post 0)
              player := .chime ⟨.slot n, post.script, 0, 0, 0, s.day.clock, none⟩ 0 })))) ∧
  (∀ (tag slot : Byte) (s : State) (r : Request) (n : Nat), s.takes → r = .cancelAnnouncement slot → n = slot.toNat →
    (9 ≤ n → exec (.cancelAnnouncement tag slot) s = .next (s.answered tag r [4#8])) ∧
    (n < 9 → s.slot n = .free → exec (.cancelAnnouncement tag slot) s = .next (s.answered tag r [8#8])) ∧
    (∀ post run, n < 9 →
      (∃ start, s.slot n = .pending post run start) ∨ (∃ left, s.slot n = .repeatWait post run left) →
      ∃ t, exec (.cancelAnnouncement tag slot) s = .next t ∧ t.steady = s.steady.answered tag r [0#8, 0#8] ∧
        (s.storeRests → s.announcer.player ≠ .idle → s.announcer.player ≠ .gap 0 → s.announcer.log.length < 16 →
          t.announcer = { s.announcer with
            slots := s.announcer.slots.set n .free
            log := (s.announcer.log ++
              [⟨.slot n, post.script.marker, .cancelled, run, none, s.day.clock, 0, 0⟩]) })) ∧
    (∀ post run x ms, n < 9 → s.slot n = .playing post run → s.announcer.player = .chime x ms →
      ∃ t, exec (.cancelAnnouncement tag slot) s = .next t ∧
        t.steady = s.steady.answered tag r (if x.endRequest = some .supersede then [0#8, 3#8] else [0#8, 1#8]) ∧
        (s.storeRests → t.announcer = { s.announcer with player := .chime { x with
          endRequest := if x.endRequest = some .supersede then some .supersede else some .cancel } ms })) ∧
    (∀ post run x i e left, n < 9 → s.slot n = .playing post run → s.announcer.player = .phrase x i e left →
      ∃ t, exec (.cancelAnnouncement tag slot) s = .next t ∧
        t.steady = s.steady.answered tag r (if x.endRequest = some .supersede then [0#8, 3#8]
          else if i + 1 = x.script.phrases.length then [0#8, 2#8] else [0#8, 1#8]) ∧
        (s.storeRests → t.announcer = { s.announcer with player := .phrase { x with
          endRequest := if x.endRequest = some .supersede then some .supersede else some .cancel } i e left })))

/-- The player's events change nothing but the announcements. CHIME_END begins the first phrase and PHRASE_END the next, each
present phrase playing its directory entry as it stood at its beginning for length ÷ 8 ms, or takes up the run's end request; a run at the end of its last phrase is recorded
COMPLETED, and its slot waits for its next repeat or goes FREE; a stopped run is recorded by its request, a deferred one not at
all, and its slot goes FREE, PENDING again, or takes the waiting step; the player goes to GAP (R133 to R135, R137 to R139, R142
to R144). GAP_END lets the player choose the fire script due or the eligible slot of lowest class (R131, R132, R140);
REPEAT_TIME_EXPIRY makes its slot PENDING (R136), and the fire timers make their scripts due (R139, R142). -/
def Obligations.PlayerEvents : Prop :=
  (∀ (c : Instr) (s : State),
    c = .chimeEnd ∨ c = .phraseEnd ∨ c = .gapEnd ∨ (∃ n, c = .repeatTimeExpiry n) ∨ c = .alertRepeatTimeout ∨
      c = .evacRepeatTimeout →
    ∃ t, exec c s = .next t ∧ t.steady = s.steady) ∧
  (∀ (c : Instr) (s : State) (r ended : Run) (place : Nat), s.storeRests →
    (c = .chimeEnd ∧ (∃ ms, s.announcer.player = .chime r ms) ∧ ended = r ∧ place = 0) ∨
      (c = .phraseEnd ∧ (∃ i e left, s.announcer.player = .phrase r i e left ∧ place = i + 1) ∧
        ended = { r with played := r.played + 1 }) →
    (∀ number entry, r.endRequest = none → r.script.phrases[place]? = some number →
      s.store.tables.phrases[number]? = some entry → 8 ≤ entry.length →
      ∃ t, exec c s = .next t ∧
        t.announcer = { s.announcer with player := .phrase ended place entry (entry.length / 8) }) ∧
    (1 ≤ s.store.timing.gap → s.announcer.log.length < 16 →
      (∀ n post run, r.endRequest = none → r.script.phrases.length ≤ place → r.source = .slot n →
        s.slot n = .playing post run → ∃ t, exec c s = .next t ∧
          t.announcer = { s.announcer with
            player := .gap s.store.timing.gap
            slots := (s.announcer.slots.set n
              (if n < 8 ∧ run < post.repeats then .repeatWait post (run + 1) (post.interval.getD 0 * 1000)
                else .free))
            log := s.announcer.log ++ [⟨r.source, r.script.marker, .completed, r.number, r.start, s.day.clock,
              ended.played, ended.skipped⟩] }) ∧
      (r.endRequest = none → r.script.phrases.length ≤ place → r.source = .scriptA ∨ r.source = .scriptE →
        ∃ t, exec c s = .next t ∧
          t.announcer = { s.announcer with
            player := .gap s.store.timing.gap
            timerE := if r.source = .scriptE ∧ s.fire.state = .evacuate then some (s.store.timing.evacRepeat * 1000)
              else s.announcer.timerE
            log := s.announcer.log ++ [⟨r.source, r.script.marker, .completed, r.number, r.start, s.day.clock,
              ended.played, ended.skipped⟩] }) ∧
      (∀ n, r.endRequest = some .cancel → r.source = .slot n → ∃ t, exec c s = .next t ∧
        t.announcer = { s.announcer with
          player := .gap s.store.timing.gap
          slots := s.announcer.slots.set n .free
          log := s.announcer.log ++ [⟨r.source, r.script.marker,
            if place = r.script.phrases.length ∧ 1 ≤ place then .completedDespiteCancel else .stoppedAfterPhrase,
            r.number, r.start, s.day.clock, ended.played, ended.skipped⟩] }) ∧
      (∀ n post run, r.endRequest = some .defer → r.source = .slot n → s.slot n = .playing post run →
        ∃ t, exec c s = .next t ∧
          t.announcer = { s.announcer with
            player := .gap s.store.timing.gap, slots := s.announcer.slots.set n (.pending post run none) }) ∧
      (∀ script, r.endRequest = some .supersede → r.source = .slot 8 → s.announcer.waiting = some script →
        ∃ t, exec c s = .next t ∧
          t.announcer = { s.announcer with
            player := .gap s.store.timing.gap
            slots := s.announcer.slots.set 8 (.pending ⟨script, 0, none⟩ 0 none)
            waiting := none
            log := s.announcer.log ++ [⟨r.source, r.script.marker, .superseded, r.number, r.start, s.day.clock,
              ended.played, ended.skipped⟩] }) ∧
      (r.endRequest = some .normal → r.source = .scriptA ∨ r.source = .scriptE → ∃ t, exec c s = .next t ∧
        t.announcer = { s.announcer with
          player := .gap s.store.timing.gap
          log := s.announcer.log ++ [⟨r.source, r.script.marker, .stoppedAfterPhrase, r.number, r.start, s.day.clock,
            ended.played, ended.skipped⟩] }))) ∧
  (∀ (s : State) (left : Nat), s.announcer.player = .gap left → s.storeRests →
    ((∀ x ∈ s.announcer.slots, ∀ post run, x ≠ .pending post run none) → s.announcer.dueA = false →
      s.announcer.dueE = false →
      ∃ t, exec .gapEnd s = .next t ∧ t.announcer = { s.announcer with player := .idle }) ∧
    (∀ n post run, s.fire.state = .normal → s.slot n = .pending post run none → 1 ≤ post.script.chime →
      (∀ m other k, s.slot m = .pending other k none →
        post.script.cls < other.script.cls ∨ (post.script.cls = other.script.cls ∧ n ≤ m)) →
      ∃ t, exec .gapEnd s = .next t ∧
        t.announcer = { s.announcer with
          slots := s.announcer.slots.set n (.playing post run)
          player := .chime ⟨.slot n, post.script, run, 0, 0, s.day.clock, none⟩ 0 }) ∧
    (∀ a, s.fire.state = .alert → s.announcer.dueA = true → s.store.tables.scriptA = some a → 1 ≤ a.chime →
      ∃ t, exec .gapEnd s = .next t ∧
        t.announcer = { s.announcer with
          dueA := false, runsA := min (s.announcer.runsA + 1) 9
          player := .chime ⟨.scriptA, a, s.announcer.runsA, 0, 0, s.day.clock, none⟩ 0 }) ∧
    (∀ e, s.fire.state = .evacuate → s.announcer.dueE = true → s.store.tables.scriptE = some e → 1 ≤ e.chime →
      ∃ t, exec .gapEnd s = .next t ∧
        t.announcer = { s.announcer with
          dueE := false, runsE := min (s.announcer.runsE + 1) 9
          player := .chime ⟨.scriptE, e, s.announcer.runsE, 0, 0, s.day.clock, none⟩ 0 })) ∧
  (∀ (n : Fin 8) (s : State), s.storeRests → s.announcer.player ≠ .idle → s.announcer.player ≠ .gap 0 →
    (∀ post run left, s.slot n = .repeatWait post run left → ∃ t, exec (.repeatTimeExpiry n) s = .next t ∧
      t.announcer = { s.announcer with slots := s.announcer.slots.set n (.pending post run none) }) ∧
    (s.fire.state = .alert → s.announcer.timerA ≠ none → ∃ t, exec .alertRepeatTimeout s = .next t ∧
      t.announcer = { s.announcer with
        dueA := s.store.tables.scriptA.isSome, timerA := some (s.store.timing.alertRepeat * 1000) }) ∧
    (s.fire.state = .evacuate → s.announcer.timerE ≠ none → ∃ t, exec .evacRepeatTimeout s = .next t ∧
      t.announcer = { s.announcer with dueE := s.store.tables.scriptE.isSome, timerE := none })) ∧
  (∀ (n : Fin 8) (s : State),
    ((∀ left, s.announcer.player ≠ .gap left) → exec .gapEnd s = .next s) ∧
    ((∀ post run left, s.slot n ≠ .repeatWait post run left) → exec (.repeatTimeExpiry n) s = .next s) ∧
    (s.fire.state ≠ .alert ∨ s.announcer.timerA = none → exec .alertRepeatTimeout s = .next s) ∧
    (s.fire.state ≠ .evacuate ∨ s.announcer.timerE = none → exec .evacRepeatTimeout s = .next s))

/-- READ_LOG returns the first records up to the count asked for, each with its index, and ACK_LOG removes the records from
index 0 through the one named; both are refused as their rules give, and in UNCONFIGURED with UNCONFIGURED (R147, R148). A
record is added after the newest, raising LOG, or finding 16 is discarded and counted, raising LOG_OVERFLOW (R146). But for
ACK_LOG, the resets, a SAVE_COMPLETE that takes the store out of UNCONFIGURED and what a frame brings, every command leaves the
records of the log as they are, with new ones only after the newest (R148). The operand of SAVE_COMPLETE is log entry 14. -/
def Obligations.LogReadAndAcknowledged : Prop :=
  (∀ (tag count : Byte) (s : State), s.serves →
    (s.unconfigured = true → exec (.readLog tag count) s = .next (s.answered tag (.readLog count) [9#8])) ∧
    (s.unconfigured = false → count.toNat = 0 ∨ 8 < count.toNat →
      exec (.readLog tag count) s = .next (s.answered tag (.readLog count) [3#8])) ∧
    (s.unconfigured = false → 1 ≤ count.toNat → count.toNat ≤ 8 →
      exec (.readLog tag count) s = .next (s.answered tag (.readLog count)
        (0#8 :: (u8 s.announcer.log.length ++ u16 s.announcer.overflow ++
          u8 (min count.toNat s.announcer.log.length) ++
          ((List.range (min count.toNat s.announcer.log.length)).flatMap fun i =>
            match s.announcer.log[i]? with
            | none => []
            | some r => u8 i ++ u8 r.source.code ++ u8 r.marker ++ u8 r.outcome.ctorIdx ++ u8 r.number ++ opt24 r.start ++
                opt24 r.finish ++ u8 r.played ++ u8 r.skipped)))))) ∧
  (∀ (tag index : Byte) (s : State), s.serves →
    (s.unconfigured = true → exec (.ackLog tag index) s = .next (s.answered tag (.ackLog index) [9#8])) ∧
    (s.unconfigured = false → s.announcer.log.length ≤ index.toNat ∨ 15 < index.toNat →
      exec (.ackLog tag index) s = .next (s.answered tag (.ackLog index) [4#8])) ∧
    (∀ gone left, s.unconfigured = false → index.toNat ≤ 15 → s.announcer.log = gone ++ left →
      gone.length = index.toNat + 1 →
      exec (.ackLog tag index) s =
        .next ({ s with announcer := { s.announcer with log := left } }.answered tag (.ackLog index)
          (0#8 :: (u8 (index.toNat + 1) ++ u8 left.length))))) ∧
  (∀ (r : LogRec) (s : State),
    (s.announcer.log.length < 16 → writeLog r s =
      { s with
        announcer := { s.announcer with log := s.announcer.log ++ [r] }
        link := (raise .log (u8 s.announcer.log.length ++ u8 r.source.code ++ u8 r.marker ++ u8 r.outcome.ctorIdx)
          s).link }) ∧
    (16 ≤ s.announcer.log.length → writeLog r s =
      { s with
        announcer := { s.announcer with overflow := min (s.announcer.overflow + 1) 65535 }
        link := (raise .logOverflow (u8 r.source.code ++ u8 r.marker ++ u8 r.outcome.ctorIdx) s).link })) ∧
  (∀ (c : Instr) (s t : State), exec c s = .next t → (∀ tag index, c ≠ .ackLog tag index) →
    (c.carries = false ∨ ∃ good, c = .saveComplete good ∧ (good = false ∨ s.unconfigured = false)) →
    ∃ new, t.announcer.log = s.announcer.log ++ new)

/-! ### The store day (chapter 9) -/

/-- SET_TIME sets the clock outside CLOSING, STORE_CLOCK_TICK counts it round the day outside UNCONFIGURED, SET_SCHEDULE
replaces the schedule and SET_WAKE the key enable, with the wake flags cleared as asked; the replies carry the store report
(R152 to R155, R169). In TRADING a clock in the close window of an enabled plan takes the store to CLOSING with cause SCHEDULE,
and one outside it does not move the store (R157); in CLOSING each step falls due as the clock reaches it, and the closing time
takes the store on to CLEARING (R158); in SHUTTING the opening time latches its flag (R164). What becomes of a yes-or-no byte
above 1 is free (log entry 4), and that a value out of range is found before BUSY and the state is the model's choice (log entry
17). -/
def Obligations.ClockAndSchedule : Prop :=
  (∀ (tag : Byte) (time : BitVec 24) (s : State), s.takes →
    (86400 ≤ time.toNat → exec (.setTime tag time) s = .next (s.answered tag (.setTime time) [3#8])) ∧
    (time.toNat < 86400 → s.day.state = .closing →
      exec (.setTime tag time) s = .next (s.answered tag (.setTime time) [6#8])) ∧
    (time.toNat < 86400 → s.day.state ≠ .closing → ∃ t, exec (.setTime tag time) s = .next t ∧
      t.steady = { s.steady with clock := some time.toNat }.answered tag (.setTime time)
        (0#8 :: storeReport t.day))) ∧
  (∀ s : State,
    (s.unconfigured = true ∨ s.day.clock = none →
      ∃ t, exec .storeClockTick s = .next t ∧ t.steady = s.steady) ∧
    (∀ x, s.unconfigured = false → s.day.clock = some x → ∃ t, exec .storeClockTick s = .next t ∧
      t.steady = { s.steady with clock := some ((x + 1) % 86400) })) ∧
  (∀ (tag wakeOn planOn : Byte) (opening closing : BitVec 24) (s : State) (r : Request), s.takes →
    r = .setSchedule opening closing wakeOn planOn →
    ((opening ≠ 0xFFFFFF#24 ∧ 86400 ≤ opening.toNat) ∨ (closing ≠ 0xFFFFFF#24 ∧ 86400 ≤ closing.toNat) ∨
        freeFlag? wakeOn = none ∨ freeFlag? planOn = none →
      exec (.setSchedule tag opening closing wakeOn planOn) s = .next (s.answered tag r [3#8])) ∧
    (∀ w p, opening = 0xFFFFFF#24 ∨ opening.toNat < 86400 → closing = 0xFFFFFF#24 ∨ closing.toNat < 86400 →
      freeFlag? wakeOn = some w → freeFlag? planOn = some p → s.store.saving = none →
      (s.day.state = .closing →
        exec (.setSchedule tag opening closing wakeOn planOn) s = .next (s.answered tag r [6#8])) ∧
      (s.day.state ≠ .closing → ∃ t, exec (.setSchedule tag opening closing wakeOn planOn) s = .next t ∧
        t.steady = { s.steady with schedule := { s.day.schedule with
          opening := if opening = 0xFFFFFF#24 then none else some opening.toNat
          closing := if closing = 0xFFFFFF#24 then none else some closing.toNat
          wakeOn := w, planOn := p } }.answered tag r (0#8 :: storeReport t.day)))) ∧
  (∀ (tag enable clear : Byte) (s : State) (r : Request), s.takes → r = .setWake enable clear →
    (freeFlag? enable = none ∨ freeFlag? clear = none →
      exec (.setWake tag enable clear) s = .next (s.answered tag r [3#8])) ∧
    (∀ k f, freeFlag? enable = some k → freeFlag? clear = some f → s.store.saving = none →
      ∃ t, exec (.setWake tag enable clear) s = .next t ∧
        t.steady = { s.steady with schedule := { s.day.schedule with keyEnable := k } }.answered tag r
          (0#8 :: storeReport t.day) ∧
        (f = true → t.day.wakeOpenNow = false ∧ t.day.wakeTime = false ∧ t.day.wakeKey = false) ∧
        (f = false → s.storeRests → t.day.wakeOpenNow = s.day.wakeOpenNow ∧ t.day.wakeTime = s.day.wakeTime ∧
          t.day.wakeKey = s.day.wakeKey))) ∧
  (∀ (c : Instr) (s t : State) (x : Nat),
    (∃ tag time, c = .setTime tag time ∧ time.toNat = x ∧ x < 86400 ∧ s.takes ∧ s.day.state ≠ .closing) ∨
      (∃ y, c = .storeClockTick ∧ s.day.clock = some y ∧ x = (y + 1) % 86400) →
    exec c s = .next t →
    (∀ k first, s.day.state = .trading → s.day.schedule.closing = some k → s.day.schedule.planOn = true →
      (∀ st, some st ∈ s.store.tables.plan → st.offset ≤ first) →
      first = 0 ∨ (∃ st, some st ∈ s.store.tables.plan ∧ st.offset = first) →
      ((x + 86400 - (k + 86400 - first * 60) % 86400) % 86400 ≤
          (k + 86400 - (k + 86400 - first * 60) % 86400) % 86400 →
        x ≠ k → t.day.state = .closing ∧ t.day.last = ⟨some .trading, .schedule, some x⟩) ∧
      ((k + 86400 - (k + 86400 - first * 60) % 86400) % 86400 <
          (x + 86400 - (k + 86400 - first * 60) % 86400) % 86400 →
        t.day.state = .trading ∧ t.day.last = s.day.last)) ∧
    (s.day.state = .trading → s.day.schedule.closing = none ∨ s.day.schedule.planOn = false →
      t.day.state = .trading ∧ t.day.last = s.day.last) ∧
    (∀ k, s.day.state = .closing → s.day.schedule.closing = some k →
      (x = k → t.day.state ≠ .closing ∧ t.day.posted = []) ∧
      (x ≠ k → t.day.state = .closing ∧ t.day.last = s.day.last ∧
        ∀ o, (o ∈ t.day.posted ↔ o ∈ s.day.posted ∨
          ∃ st, some st ∈ s.store.tables.plan ∧ st.offset = o ∧ (k + 86400 - o * 60) % 86400 = x))) ∧
    (s.day.state = .shutting → s.day.schedule.opening = some x → s.chain.nPrev ≠ 0 ∨ s.chain.nLast ≠ 0 →
      t.day.state = .shutting ∧ t.day.wakeTime = true))

/-- OPEN_NOW is refused with FIRE_ACTIVE in EVACUATE and with WRONG_STATE in CLOSING and CLEARING, changes nothing in TRADING and
OPENING, takes a store in STANDBY to OPENING, and in SHUTTING, SHUT and WAKING latches its flag, which SHUT and WAKING act on at
once (R166 to R168). CLOSE_NOW takes a store in TRADING, CLOSING or STANDBY to CLEARING, changes nothing in CLEARING, SHUTTING
and SHUT, and is refused with WRONG_STATE in WAKING and OPENING (R159, R160). The clearing limit takes the store to SHUTTING
with the clearing-forced flag set (R161), and the opening limit to TRADING (R170). -/
def Obligations.OpenAndClose : Prop :=
  (∀ (tag : Byte) (s : State), s.takes →
    (s.fire.state = .evacuate → exec (.openNow tag) s = .next (s.answered tag .openNow [10#8])) ∧
    (s.fire.state ≠ .evacuate →
      (s.day.state = .closing ∨ s.day.state = .clearing →
        exec (.openNow tag) s = .next (s.answered tag .openNow [6#8])) ∧
      (s.day.state = .trading ∨ s.day.state = .opening →
        exec (.openNow tag) s = .next (s.answered tag .openNow (0#8 :: storeReport s.day))) ∧
      (s.day.state = .standby ∨ s.day.state = .shutting ∨ s.day.state = .shut ∨ s.day.state = .waking →
        ∃ t, exec (.openNow tag) s = .next t ∧
          t.steady = s.steady.answered tag .openNow (0#8 :: storeReport t.day) ∧
          (s.day.state ≠ .shutting → s.day.schedule.planOn = false →
            (t.day.state = .opening ∨ t.day.state = .trading) ∧ t.day.wakeOpenNow = false ∧ t.day.wakeTime = false ∧
              t.day.wakeKey = false) ∧
          (s.day.state = .standby →
            (∃ n < 32, ∃ sh, s.nightClose n = true ∧ s.unit n = some sh ∧ sh.state = .closed ∧
              (s.inputs n).top = false) →
            t.day.state = .opening ∧ t.day.last = ⟨some .standby, .openNow, s.day.clock⟩ ∧
              t.day.openingLeft = some (s.store.timing.openingLimit * 60000)) ∧
          (s.day.state = .shutting → s.chain.nPrev ≠ 0 ∨ s.chain.nLast ≠ 0 →
            t.day.state = .shutting ∧ t.day.wakeOpenNow = true)))) ∧
  (∀ (tag : Byte) (s : State), s.takes →
    (s.day.state = .waking ∨ s.day.state = .opening →
      exec (.closeNow tag) s = .next (s.answered tag .closeNow [6#8])) ∧
    (s.day.state = .clearing ∨ s.day.state = .shutting ∨ s.day.state = .shut →
      exec (.closeNow tag) s = .next (s.answered tag .closeNow (0#8 :: storeReport s.day))) ∧
    (s.day.state = .trading ∨ s.day.state = .closing ∨ s.day.state = .standby →
      ∃ t, exec (.closeNow tag) s = .next t ∧
        t.steady = s.steady.answered tag .closeNow (0#8 :: storeReport t.day) ∧ t.chain.state ≠ .running ∧
        (s.calls.counting.calls ≠ [] ∨ s.calls.floor.calls ≠ [] →
          t.day.state = .clearing ∧ t.day.last = ⟨some s.day.state, .closeNow, s.day.clock⟩ ∧
            t.day.clearingLeft = some (s.store.timing.clearingLimit * 60000) ∧ t.day.forced = false ∧
            t.day.posted = []))) ∧
  (∀ s : State,
    (s.day.state ≠ .clearing → exec .clearingLimitTimeout s = .next s) ∧
    (s.day.state = .clearing → ∃ t, exec .clearingLimitTimeout s = .next t ∧ t.steady = s.steady ∧
      (s.chain.nPrev ≠ 0 ∨ s.chain.nLast ≠ 0 → t.day.state = .shutting ∧
        t.day.last = ⟨some .clearing, .clearingLimit, s.day.clock⟩ ∧ t.day.forced = true ∧
        t.day.clearingLeft = none ∧ t.chain.state.runs = false)) ∧
    (s.day.state ≠ .opening → exec .openingLimitTimeout s = .next s) ∧
    (s.day.state = .opening → ∃ t, exec .openingLimitTimeout s = .next t ∧ t.steady = s.steady ∧
      (s.day.schedule.planOn = false → t.day.state = .trading ∧
        t.day.last = ⟨some .opening, .openingLimit, s.day.clock⟩ ∧ t.day.openingLeft = none)))

/-- WATCHMAN_KEY_CHANGE takes the key active or inactive with the hold time at 0; turned active in SHUTTING, SHUT or WAKING it
latches the key flag, which wakes a store in SHUT outside EVACUATE when the key is enabled (R164 to R166). A store in WAKING on
the key alone waits while the key is active, returns to SHUT with cause KEY_RELEASED when it is taken inactive, and opens with
KEY_HOLD_COMPLETE (R167). In other states the key latches no flag (R156, R164). That the first change to active
after a reset counts as any other is the model's reading (log entry 43). -/
def Obligations.WatchmanKey : Prop :=
  (∀ (active : Bool) (s : State),
    (s.day.key = active → exec (.watchmanKeyChange active) s = .next s) ∧
    (s.day.key ≠ active → ∃ t, exec (.watchmanKeyChange active) s = .next t ∧
      t.steady = { s.steady with key := active, keyHold := 0 } ∧
      (s.storeRests → t.day.wakeKey = s.day.wakeKey ∧ t.day.state = s.day.state) ∧
      (active = true → s.day.state = .shutting → s.chain.nPrev ≠ 0 ∨ s.chain.nLast ≠ 0 →
        t.day.state = .shutting ∧ t.day.wakeKey = true) ∧
      (active = true → s.day.state = .shut → s.day.schedule.keyEnable = true → s.fire.state ≠ .evacuate →
        s.day.wakeOpenNow = false → s.day.wakeTime = false ∨ s.day.schedule.wakeOn = false →
        t.day.state = .waking ∧ t.day.last = ⟨some .shut, .wake, s.day.clock⟩ ∧ t.day.wakeKey = true) ∧
      (active = false → s.day.state = .waking → s.day.wakeOpenNow = false →
        s.day.wakeTime = false ∨ s.day.schedule.wakeOn = false → s.day.wakeKey = true →
        s.day.schedule.keyEnable = true →
        t.day.state = .shut ∧ t.day.last = ⟨some .waking, .keyReleased, s.day.clock⟩ ∧ t.day.wakeTime = false ∧
          t.day.wakeKey = false))) ∧
  (∀ s : State,
    (s.day.key = false → exec .keyHoldComplete s = .next s) ∧
    (s.day.key = true → ∃ t, exec .keyHoldComplete s = .next t ∧
      t.steady = { s.steady with keyHold := 2000 } ∧
      (s.storeRests → t.day.state = s.day.state) ∧
      (s.day.state = .waking → s.day.wakeKey = true → s.day.schedule.keyEnable = true →
        s.day.schedule.planOn = false →
        (t.day.state = .opening ∨ t.day.state = .trading) ∧ t.day.wakeKey = false)))

/-! ### The whole part -/

/-- Every step keeps every table and queue within its size and every held value within its range: the tables (R2 to R10, R55,
R97, R127, R177), the two rings of eight with no two records of one code (R113), the log of 16 (R146), the error counter of 255
(R99), the clock below 86,400 (R152), four shutters RAISING (R72), the window counts within ±2,047 (R22) and the close groups of
the tables and of every image in 0 to 3 (R4). -/
def Obligations.BoundsHold : Prop :=
  ∀ s t : State, s.shaped → s.bounded → step s = .next t → t.shaped ∧ t.bounded

/-- The state after reset has the six invariants that every step keeps: RUN guarded, every value in its range, every list of
its size, the promises of the Shutter Controller, the silence of EVACUATE but for script E, and the conflict latch set while
a conflict exists. State.reset is the start with both banks empty (log entry 1). -/
def Obligations.ResetMeetsInvariants : Prop :=
  State.reset.runGuarded ∧ State.reset.bounded ∧ State.reset.shaped ∧ State.reset.shuttersSound ∧
    State.reset.evacuationSpeaks ∧ State.reset.conflictsLatched

/-- Each part of the state is changed only by the commands its rules name, whatever state the part is in and whatever follows
at the same moment: the Commissioning Store by its writes (R1, R11 to R13), the fire stage by the lines, its timers and its
two requests (R81 to R92), the Call Intake by polls and the site entry (R94 to R109), the calls by presses, acknowledgements
and escalation (R113 to R119), the clock, schedule and key by theirs (R152 to R154, R165, R169), the shutters' inputs and the
fail-safe release by the inputs (R16, R55, R58), the chain's position, sync, slip, windows, DRIVE_OK and stop pushes by theirs
(R5, R18 to R22, R26, R36 to R38), and the arm flags by ARM_NOTICES and the sending of a notice (R178, R179). Resets, the end
of a save, and what a frame brings stand apart. -/
def Obligations.EachBlockHasItsCommands : Prop :=
  ∀ (c : Instr) (s t : State) (kind : Nat), exec c s = .next t → c.carries = false →
    kind = (match c.request? with
      | some (_, r) => r.kind
      | none => 0) →
    (t.store ≠ s.store → 0x10 ≤ kind ∧ kind ≤ 0x1E) ∧
    (t.fire ≠ s.fire → kind = 0x40 ∨ kind = 0x41 ∨ (∃ line reading, c = .fireLineReadingChange line reading) ∨
      (∃ line, c = .startupReadTimeout line) ∨ c = .escalationTimeout ∨ c = .evacGroupDue) ∧
    (t.intake ≠ s.intake → kind = 0x10 ∨ (∃ bytes stop, c = .pollReplyEnd bytes stop) ∨ c = .pollReplyTimeout ∨
      c = .firstPollAfterRestart) ∧
    (∀ q, (t.queue q).calls ≠ (s.queue q).calls → kind = 0x51 ∨ (∃ bytes stop, c = .pollReplyEnd bytes stop) ∨
      (∃ q, c = .localAcknowledge q) ∨ ∃ q, c = .callEscalationTimeout q) ∧
    (t.day.clock ≠ s.day.clock → kind = 0x02 ∨ c = .storeClockTick) ∧
    (t.day.schedule ≠ s.day.schedule → kind = 0x03 ∨ kind = 0x06) ∧
    (t.day.key ≠ s.day.key → ∃ active, c = .watchmanKeyChange active) ∧
    (t.day.keyHold ≠ s.day.keyHold → (∃ active, c = .watchmanKeyChange active) ∨ c = .keyHoldComplete) ∧
    (t.shutters.inputs ≠ s.shutters.inputs →
      (∃ a b d e, c = .shutterFirstReading a b d e) ∨ ∃ n line active, c = .shutterInputChange n line active) ∧
    (t.shutters.inputsRead ≠ s.shutters.inputsRead → ∃ a b d e, c = .shutterFirstReading a b d e) ∧
    (t.shutters.failSafe ≠ s.shutters.failSafe → c = .fireLineReadingChange .evacIn .active) ∧
    (t.chain.p ≠ s.chain.p → kind = 0x14 ∨ (∃ forward, c = .encoderStep forward) ∨ c = .indexPulse) ∧
    (t.chain.synced ≠ s.chain.synced ∨ t.chain.lastSlip ≠ s.chain.lastSlip → kind = 0x14 ∨ c = .indexPulse) ∧
    (t.chain.window ≠ s.chain.window → (∃ forward, c = .encoderStep forward) ∨ c = .speedWindowComplete) ∧
    (t.chain.nPrev ≠ s.chain.nPrev ∨ t.chain.nLast ≠ s.chain.nLast → c = .speedWindowComplete) ∧
    (t.chain.driveOk ≠ s.chain.driveOk → ∃ high, c = .driveOkChange high) ∧
    (t.chain.stopPushes ≠ s.chain.stopPushes → kind = 0x23 ∨ ∃ bytes stop, c = .pollReplyEnd bytes stop) ∧
    (t.link.arms ≠ s.link.arms → kind = 0x70 ∨ c = .noticeSendStart) ∧
    t.pending = s.pending
end

