-- ==== Sys2Proof/Laws/State.lean ====
section
/-! SUPPORT. One lemma for each field of State after each named update, each true by definition, so that no later proof
unfolds a record update. -/

namespace Sys2Proof.Machine

variable (s : State)

@[simp] theorem setSlot_store (n : Nat) (x : Slot) : (setSlot n x s).store = s.store := rfl
@[simp] theorem setSlot_chain (n : Nat) (x : Slot) : (setSlot n x s).chain = s.chain := rfl
@[simp] theorem setSlot_board (n : Nat) (x : Slot) : (setSlot n x s).board = s.board := rfl
@[simp] theorem setSlot_shutters (n : Nat) (x : Slot) : (setSlot n x s).shutters = s.shutters := rfl
@[simp] theorem setSlot_fire (n : Nat) (x : Slot) : (setSlot n x s).fire = s.fire := rfl
@[simp] theorem setSlot_intake (n : Nat) (x : Slot) : (setSlot n x s).intake = s.intake := rfl
@[simp] theorem setSlot_calls (n : Nat) (x : Slot) : (setSlot n x s).calls = s.calls := rfl
@[simp] theorem setSlot_announcer (n : Nat) (x : Slot) :
    (setSlot n x s).announcer = { s.announcer with slots := s.announcer.slots.set n x } := rfl
@[simp] theorem setSlot_day (n : Nat) (x : Slot) : (setSlot n x s).day = s.day := rfl
@[simp] theorem setSlot_link (n : Nat) (x : Slot) : (setSlot n x s).link = s.link := rfl
@[simp] theorem setSlot_choices (n : Nat) (x : Slot) : (setSlot n x s).choices = s.choices := rfl
@[simp] theorem setSlot_pending (n : Nat) (x : Slot) : (setSlot n x s).pending = s.pending := rfl

@[simp] theorem setPlayer_store (p : Player) : (setPlayer p s).store = s.store := rfl
@[simp] theorem setPlayer_chain (p : Player) : (setPlayer p s).chain = s.chain := rfl
@[simp] theorem setPlayer_board (p : Player) : (setPlayer p s).board = s.board := rfl
@[simp] theorem setPlayer_shutters (p : Player) : (setPlayer p s).shutters = s.shutters := rfl
@[simp] theorem setPlayer_fire (p : Player) : (setPlayer p s).fire = s.fire := rfl
@[simp] theorem setPlayer_intake (p : Player) : (setPlayer p s).intake = s.intake := rfl
@[simp] theorem setPlayer_calls (p : Player) : (setPlayer p s).calls = s.calls := rfl
@[simp] theorem setPlayer_announcer (p : Player) : (setPlayer p s).announcer = { s.announcer with player := p } := rfl
@[simp] theorem setPlayer_day (p : Player) : (setPlayer p s).day = s.day := rfl
@[simp] theorem setPlayer_link (p : Player) : (setPlayer p s).link = s.link := rfl
@[simp] theorem setPlayer_choices (p : Player) : (setPlayer p s).choices = s.choices := rfl
@[simp] theorem setPlayer_pending (p : Player) : (setPlayer p s).pending = s.pending := rfl

@[simp] theorem setQueue_store (q : QueueName) (x : Queue) : (setQueue q x s).store = s.store := rfl
@[simp] theorem setQueue_chain (q : QueueName) (x : Queue) : (setQueue q x s).chain = s.chain := rfl
@[simp] theorem setQueue_board (q : QueueName) (x : Queue) : (setQueue q x s).board = s.board := rfl
@[simp] theorem setQueue_shutters (q : QueueName) (x : Queue) : (setQueue q x s).shutters = s.shutters := rfl
@[simp] theorem setQueue_fire (q : QueueName) (x : Queue) : (setQueue q x s).fire = s.fire := rfl
@[simp] theorem setQueue_intake (q : QueueName) (x : Queue) : (setQueue q x s).intake = s.intake := rfl
@[simp] theorem setQueue_calls (q : QueueName) (x : Queue) : (setQueue q x s).calls = s.calls.set q x := rfl
@[simp] theorem setQueue_announcer (q : QueueName) (x : Queue) : (setQueue q x s).announcer = s.announcer := rfl
@[simp] theorem setQueue_day (q : QueueName) (x : Queue) : (setQueue q x s).day = s.day := rfl
@[simp] theorem setQueue_link (q : QueueName) (x : Queue) : (setQueue q x s).link = s.link := rfl
@[simp] theorem setQueue_choices (q : QueueName) (x : Queue) : (setQueue q x s).choices = s.choices := rfl
@[simp] theorem setQueue_pending (q : QueueName) (x : Queue) : (setQueue q x s).pending = s.pending := rfl

@[simp] theorem setPattern_store (q : QueueName) (p : Pattern) : (setPattern q p s).store = s.store := rfl
@[simp] theorem setPattern_chain (q : QueueName) (p : Pattern) : (setPattern q p s).chain = s.chain := rfl
@[simp] theorem setPattern_board (q : QueueName) (p : Pattern) : (setPattern q p s).board = s.board := rfl
@[simp] theorem setPattern_shutters (q : QueueName) (p : Pattern) : (setPattern q p s).shutters = s.shutters := rfl
@[simp] theorem setPattern_fire (q : QueueName) (p : Pattern) : (setPattern q p s).fire = s.fire := rfl
@[simp] theorem setPattern_intake (q : QueueName) (p : Pattern) : (setPattern q p s).intake = s.intake := rfl
@[simp] theorem setPattern_calls (q : QueueName) (p : Pattern) :
    (setPattern q p s).calls = s.calls.set q { s.queue q with pattern := p } := rfl
@[simp] theorem setPattern_announcer (q : QueueName) (p : Pattern) : (setPattern q p s).announcer = s.announcer := rfl
@[simp] theorem setPattern_day (q : QueueName) (p : Pattern) : (setPattern q p s).day = s.day := rfl
@[simp] theorem setPattern_link (q : QueueName) (p : Pattern) : (setPattern q p s).link = s.link := rfl
@[simp] theorem setPattern_choices (q : QueueName) (p : Pattern) : (setPattern q p s).choices = s.choices := rfl
@[simp] theorem setPattern_pending (q : QueueName) (p : Pattern) : (setPattern q p s).pending = s.pending := rfl

@[simp] theorem setFire_store (f : Fire) : (setFire f s).store = s.store := rfl
@[simp] theorem setFire_chain (f : Fire) : (setFire f s).chain = s.chain := rfl
@[simp] theorem setFire_board (f : Fire) : (setFire f s).board = s.board := rfl
@[simp] theorem setFire_shutters (f : Fire) : (setFire f s).shutters = s.shutters := rfl
@[simp] theorem setFire_fire (f : Fire) : (setFire f s).fire = f := rfl
@[simp] theorem setFire_intake (f : Fire) : (setFire f s).intake = s.intake := rfl
@[simp] theorem setFire_calls (f : Fire) : (setFire f s).calls = s.calls := rfl
@[simp] theorem setFire_announcer (f : Fire) : (setFire f s).announcer = s.announcer := rfl
@[simp] theorem setFire_day (f : Fire) : (setFire f s).day = s.day := rfl
@[simp] theorem setFire_link (f : Fire) : (setFire f s).link = s.link := rfl
@[simp] theorem setFire_choices (f : Fire) : (setFire f s).choices = s.choices := rfl
@[simp] theorem setFire_pending (f : Fire) : (setFire f s).pending = s.pending := rfl

@[simp] theorem setIntake_store (i : Intake) : (setIntake i s).store = s.store := rfl
@[simp] theorem setIntake_chain (i : Intake) : (setIntake i s).chain = s.chain := rfl
@[simp] theorem setIntake_board (i : Intake) : (setIntake i s).board = s.board := rfl
@[simp] theorem setIntake_shutters (i : Intake) : (setIntake i s).shutters = s.shutters := rfl
@[simp] theorem setIntake_fire (i : Intake) : (setIntake i s).fire = s.fire := rfl
@[simp] theorem setIntake_intake (i : Intake) : (setIntake i s).intake = i := rfl
@[simp] theorem setIntake_calls (i : Intake) : (setIntake i s).calls = s.calls := rfl
@[simp] theorem setIntake_announcer (i : Intake) : (setIntake i s).announcer = s.announcer := rfl
@[simp] theorem setIntake_day (i : Intake) : (setIntake i s).day = s.day := rfl
@[simp] theorem setIntake_link (i : Intake) : (setIntake i s).link = s.link := rfl
@[simp] theorem setIntake_choices (i : Intake) : (setIntake i s).choices = s.choices := rfl
@[simp] theorem setIntake_pending (i : Intake) : (setIntake i s).pending = s.pending := rfl

@[simp] theorem setLink_store (l : Link) : (setLink l s).store = s.store := rfl
@[simp] theorem setLink_chain (l : Link) : (setLink l s).chain = s.chain := rfl
@[simp] theorem setLink_board (l : Link) : (setLink l s).board = s.board := rfl
@[simp] theorem setLink_shutters (l : Link) : (setLink l s).shutters = s.shutters := rfl
@[simp] theorem setLink_fire (l : Link) : (setLink l s).fire = s.fire := rfl
@[simp] theorem setLink_intake (l : Link) : (setLink l s).intake = s.intake := rfl
@[simp] theorem setLink_calls (l : Link) : (setLink l s).calls = s.calls := rfl
@[simp] theorem setLink_announcer (l : Link) : (setLink l s).announcer = s.announcer := rfl
@[simp] theorem setLink_day (l : Link) : (setLink l s).day = s.day := rfl
@[simp] theorem setLink_link (l : Link) : (setLink l s).link = l := rfl
@[simp] theorem setLink_choices (l : Link) : (setLink l s).choices = s.choices := rfl
@[simp] theorem setLink_pending (l : Link) : (setLink l s).pending = s.pending := rfl

@[simp] theorem setTables_store (t : Tables) :
    (setTables t s).store = { s.store with tables := t, unsaved := true } := rfl
@[simp] theorem setTables_chain (t : Tables) : (setTables t s).chain = s.chain := rfl
@[simp] theorem setTables_board (t : Tables) : (setTables t s).board = s.board := rfl
@[simp] theorem setTables_shutters (t : Tables) : (setTables t s).shutters = s.shutters := rfl
@[simp] theorem setTables_fire (t : Tables) : (setTables t s).fire = s.fire := rfl
@[simp] theorem setTables_intake (t : Tables) : (setTables t s).intake = s.intake := rfl
@[simp] theorem setTables_calls (t : Tables) : (setTables t s).calls = s.calls := rfl
@[simp] theorem setTables_announcer (t : Tables) : (setTables t s).announcer = s.announcer := rfl
@[simp] theorem setTables_day (t : Tables) : (setTables t s).day = s.day := rfl
@[simp] theorem setTables_link (t : Tables) : (setTables t s).link = s.link := rfl
@[simp] theorem setTables_choices (t : Tables) : (setTables t s).choices = s.choices := rfl
@[simp] theorem setTables_pending (t : Tables) : (setTables t s).pending = s.pending := rfl

@[simp] theorem raise_store (c : Condition) (data : List Byte) : (raise c data s).store = s.store := rfl
@[simp] theorem raise_chain (c : Condition) (data : List Byte) : (raise c data s).chain = s.chain := rfl
@[simp] theorem raise_board (c : Condition) (data : List Byte) : (raise c data s).board = s.board := rfl
@[simp] theorem raise_shutters (c : Condition) (data : List Byte) : (raise c data s).shutters = s.shutters := rfl
@[simp] theorem raise_fire (c : Condition) (data : List Byte) : (raise c data s).fire = s.fire := rfl
@[simp] theorem raise_intake (c : Condition) (data : List Byte) : (raise c data s).intake = s.intake := rfl
@[simp] theorem raise_calls (c : Condition) (data : List Byte) : (raise c data s).calls = s.calls := rfl
@[simp] theorem raise_announcer (c : Condition) (data : List Byte) : (raise c data s).announcer = s.announcer := rfl
@[simp] theorem raise_day (c : Condition) (data : List Byte) : (raise c data s).day = s.day := rfl
@[simp] theorem raise_link (c : Condition) (data : List Byte) :
    (raise c data s).link = { s.link with notices := s.link.notices.modify c.ctorIdx (Notice.raise data) } := rfl
@[simp] theorem raise_choices (c : Condition) (data : List Byte) : (raise c data s).choices = s.choices := rfl
@[simp] theorem raise_pending (c : Condition) (data : List Byte) : (raise c data s).pending = s.pending := rfl

@[simp] theorem setChain_store (st : ChainState) : (setChain st s).store = s.store := rfl
@[simp] theorem setChain_chain (st : ChainState) :
    (setChain st s).chain = Chain.restFix { s.chain with state := st } := rfl
@[simp] theorem setChain_board (st : ChainState) : (setChain st s).board = s.board := rfl
@[simp] theorem setChain_shutters (st : ChainState) : (setChain st s).shutters = s.shutters := rfl
@[simp] theorem setChain_fire (st : ChainState) : (setChain st s).fire = s.fire := rfl
@[simp] theorem setChain_intake (st : ChainState) : (setChain st s).intake = s.intake := rfl
@[simp] theorem setChain_calls (st : ChainState) : (setChain st s).calls = s.calls := rfl
@[simp] theorem setChain_announcer (st : ChainState) : (setChain st s).announcer = s.announcer := rfl
@[simp] theorem setChain_day (st : ChainState) : (setChain st s).day = s.day := rfl
@[simp] theorem setChain_link (st : ChainState) : (setChain st s).link = s.link := rfl
@[simp] theorem setChain_choices (st : ChainState) : (setChain st s).choices = s.choices := rfl
@[simp] theorem setChain_pending (st : ChainState) : (setChain st s).pending = s.pending := rfl

@[simp] theorem leaveQueue_store (n : Nat) : (leaveQueue n s).store = s.store := rfl
@[simp] theorem leaveQueue_chain (n : Nat) : (leaveQueue n s).chain = s.chain := rfl
@[simp] theorem leaveQueue_board (n : Nat) : (leaveQueue n s).board = s.board := rfl
@[simp] theorem leaveQueue_shutters (n : Nat) :
    (leaveQueue n s).shutters = { s.shutters with raiseQueue := s.shutters.raiseQueue.filter (· != n) } := rfl
@[simp] theorem leaveQueue_fire (n : Nat) : (leaveQueue n s).fire = s.fire := rfl
@[simp] theorem leaveQueue_intake (n : Nat) : (leaveQueue n s).intake = s.intake := rfl
@[simp] theorem leaveQueue_calls (n : Nat) : (leaveQueue n s).calls = s.calls := rfl
@[simp] theorem leaveQueue_announcer (n : Nat) : (leaveQueue n s).announcer = s.announcer := rfl
@[simp] theorem leaveQueue_day (n : Nat) : (leaveQueue n s).day = s.day := rfl
@[simp] theorem leaveQueue_link (n : Nat) : (leaveQueue n s).link = s.link := rfl
@[simp] theorem leaveQueue_choices (n : Nat) : (leaveQueue n s).choices = s.choices := rfl
@[simp] theorem leaveQueue_pending (n : Nat) : (leaveQueue n s).pending = s.pending := rfl

@[simp] theorem clearWakeFlags_store : (clearWakeFlags s).store = s.store := rfl
@[simp] theorem clearWakeFlags_chain : (clearWakeFlags s).chain = s.chain := rfl
@[simp] theorem clearWakeFlags_board : (clearWakeFlags s).board = s.board := rfl
@[simp] theorem clearWakeFlags_shutters : (clearWakeFlags s).shutters = s.shutters := rfl
@[simp] theorem clearWakeFlags_fire : (clearWakeFlags s).fire = s.fire := rfl
@[simp] theorem clearWakeFlags_intake : (clearWakeFlags s).intake = s.intake := rfl
@[simp] theorem clearWakeFlags_calls : (clearWakeFlags s).calls = s.calls := rfl
@[simp] theorem clearWakeFlags_announcer : (clearWakeFlags s).announcer = s.announcer := rfl
@[simp] theorem clearWakeFlags_day :
    (clearWakeFlags s).day = { s.day with wakeOpenNow := false, wakeTime := false, wakeKey := false } := rfl
@[simp] theorem clearWakeFlags_link : (clearWakeFlags s).link = s.link := rfl
@[simp] theorem clearWakeFlags_choices : (clearWakeFlags s).choices = s.choices := rfl
@[simp] theorem clearWakeFlags_pending : (clearWakeFlags s).pending = s.pending := rfl

@[simp] theorem changeStore_store (new : StoreState) (cause : StoreCause) :
    (changeStore new cause s).store = s.store := rfl
@[simp] theorem changeStore_chain (new : StoreState) (cause : StoreCause) :
    (changeStore new cause s).chain = s.chain := rfl
@[simp] theorem changeStore_board (new : StoreState) (cause : StoreCause) :
    (changeStore new cause s).board = s.board := rfl
@[simp] theorem changeStore_shutters (new : StoreState) (cause : StoreCause) :
    (changeStore new cause s).shutters = s.shutters := rfl
@[simp] theorem changeStore_fire (new : StoreState) (cause : StoreCause) :
    (changeStore new cause s).fire = s.fire := rfl
@[simp] theorem changeStore_intake (new : StoreState) (cause : StoreCause) :
    (changeStore new cause s).intake = s.intake := rfl
@[simp] theorem changeStore_calls (new : StoreState) (cause : StoreCause) :
    (changeStore new cause s).calls = s.calls := rfl
@[simp] theorem changeStore_announcer (new : StoreState) (cause : StoreCause) :
    (changeStore new cause s).announcer = s.announcer := rfl
@[simp] theorem changeStore_day (new : StoreState) (cause : StoreCause) :
    (changeStore new cause s).day = { s.day with state := new, last := ⟨some s.day.state, cause, s.day.clock⟩ } := rfl
@[simp] theorem changeStore_choices (new : StoreState) (cause : StoreCause) :
    (changeStore new cause s).choices = s.choices := rfl
@[simp] theorem changeStore_pending (new : StoreState) (cause : StoreCause) :
    (changeStore new cause s).pending = s.pending := rfl

@[simp] theorem changeFire_store (new : FireState) (cause : FireCause) :
    (changeFire new cause s).store = s.store := rfl
@[simp] theorem changeFire_chain (new : FireState) (cause : FireCause) :
    (changeFire new cause s).chain = s.chain := rfl
@[simp] theorem changeFire_board (new : FireState) (cause : FireCause) :
    (changeFire new cause s).board = s.board := rfl
@[simp] theorem changeFire_shutters (new : FireState) (cause : FireCause) :
    (changeFire new cause s).shutters = s.shutters := rfl
@[simp] theorem changeFire_fire (new : FireState) (cause : FireCause) :
    (changeFire new cause s).fire = { s.fire with state := new, entry := some ⟨cause, s.day.clock⟩ } := rfl
@[simp] theorem changeFire_intake (new : FireState) (cause : FireCause) :
    (changeFire new cause s).intake = s.intake := rfl
@[simp] theorem changeFire_calls (new : FireState) (cause : FireCause) :
    (changeFire new cause s).calls = s.calls := rfl
@[simp] theorem changeFire_announcer (new : FireState) (cause : FireCause) :
    (changeFire new cause s).announcer = s.announcer := rfl
@[simp] theorem changeFire_day (new : FireState) (cause : FireCause) : (changeFire new cause s).day = s.day := rfl
@[simp] theorem changeFire_choices (new : FireState) (cause : FireCause) :
    (changeFire new cause s).choices = s.choices := rfl
@[simp] theorem changeFire_pending (new : FireState) (cause : FireCause) :
    (changeFire new cause s).pending = s.pending := rfl

@[simp] theorem pushReply_store (h : Held) (payload : List Byte) (a : ReplyFor) :
    (pushReply h payload a s).store = s.store := rfl
@[simp] theorem pushReply_chain (h : Held) (payload : List Byte) (a : ReplyFor) :
    (pushReply h payload a s).chain = s.chain := rfl
@[simp] theorem pushReply_board (h : Held) (payload : List Byte) (a : ReplyFor) :
    (pushReply h payload a s).board = s.board := rfl
@[simp] theorem pushReply_shutters (h : Held) (payload : List Byte) (a : ReplyFor) :
    (pushReply h payload a s).shutters = s.shutters := rfl
@[simp] theorem pushReply_fire (h : Held) (payload : List Byte) (a : ReplyFor) :
    (pushReply h payload a s).fire = s.fire := rfl
@[simp] theorem pushReply_intake (h : Held) (payload : List Byte) (a : ReplyFor) :
    (pushReply h payload a s).intake = s.intake := rfl
@[simp] theorem pushReply_calls (h : Held) (payload : List Byte) (a : ReplyFor) :
    (pushReply h payload a s).calls = s.calls := rfl
@[simp] theorem pushReply_announcer (h : Held) (payload : List Byte) (a : ReplyFor) :
    (pushReply h payload a s).announcer = s.announcer := rfl
@[simp] theorem pushReply_day (h : Held) (payload : List Byte) (a : ReplyFor) :
    (pushReply h payload a s).day = s.day := rfl
@[simp] theorem pushReply_link (h : Held) (payload : List Byte) (a : ReplyFor) :
    (pushReply h payload a s).link = { s.link with ready := s.link.ready ++ [⟨h.tag, h.kind ||| 0x80#8, payload, a⟩] } := rfl
@[simp] theorem pushReply_choices (h : Held) (payload : List Byte) (a : ReplyFor) :
    (pushReply h payload a s).choices = s.choices := rfl
@[simp] theorem pushReply_pending (h : Held) (payload : List Byte) (a : ReplyFor) :
    (pushReply h payload a s).pending = s.pending := rfl

@[simp] theorem dropUnit_store (n : Nat) : (dropUnit n s).store = s.store := rfl
@[simp] theorem dropUnit_chain (n : Nat) : (dropUnit n s).chain = s.chain := rfl
@[simp] theorem dropUnit_board (n : Nat) : (dropUnit n s).board = s.board := rfl
@[simp] theorem dropUnit_shutters (n : Nat) :
    (dropUnit n s).shutters = { s.shutters with units := s.shutters.units.set n none } := rfl
@[simp] theorem dropUnit_fire (n : Nat) : (dropUnit n s).fire = s.fire := rfl
@[simp] theorem dropUnit_intake (n : Nat) : (dropUnit n s).intake = s.intake := rfl
@[simp] theorem dropUnit_calls (n : Nat) : (dropUnit n s).calls = s.calls := rfl
@[simp] theorem dropUnit_announcer (n : Nat) : (dropUnit n s).announcer = s.announcer := rfl
@[simp] theorem dropUnit_day (n : Nat) : (dropUnit n s).day = s.day := rfl
@[simp] theorem dropUnit_link (n : Nat) : (dropUnit n s).link = s.link := rfl
@[simp] theorem dropUnit_choices (n : Nat) : (dropUnit n s).choices = s.choices := rfl
@[simp] theorem dropUnit_pending (n : Nat) : (dropUnit n s).pending = s.pending := rfl

end Sys2Proof.Machine
end

