-- ==== Sys2Proof/Laws/Steady.lean ====
section
/-! SUPPORT. What no move that the part makes by itself can change: the steady part of the state. `settle_steady` says it
once for everything that follows a command; the provers cite its corollaries instead of unfolding `settle`. -/

namespace Sys2Proof.Machine

/-! ### Folds -/

/-- A view that an order leaves alone at each shutter is left alone by the order to all of them. -/
theorem forShutters_view {α : Type} (view : State → α) (chosen : Nat → Bool) (order : Nat → State → State)
    (h : ∀ n s, view (order n s) = view s) (s : State) : view (forShutters chosen order s) = view s := by
  unfold forShutters
  generalize List.range 32 = l
  induction l generalizing s with
  | nil => rfl
  | cons n l ih =>
    rw [List.foldl_cons, ih]
    split
    · exact h n s
    · rfl

/-- The same for a fold over a list. -/
theorem foldl_view {α β : Type} (view : State → α) (op : State → β → State) (h : ∀ s b, view (op s b) = view s)
    (l : List β) (s : State) : view (l.foldl op s) = view s := by
  induction l generalizing s with
  | nil => rfl
  | cons n l ih => rw [List.foldl_cons, ih, h]

/-! ### Notices -/

/-- Raising a condition changes no arm flag (R177). -/
theorem modify_raise_arms (l : List Notice) (i : Nat) (data : List Byte) :
    (l.modify i (Notice.raise data)).map Notice.armed = l.map Notice.armed := by
  induction l generalizing i with
  | nil => cases i <;> rfl
  | cons c l ih =>
    cases i with
    | zero => rfl
    | succ i => simp [ih]

/-- The conditions that what follows a command may raise: CONFLICT, CHAIN_HALT, SHUTTER_FAULT, STORE_STATE, LOG and
LOG_OVERFLOW. -/
def Condition.follows : Condition → Bool
  | .conflict | .chainHalt | .shutterFault | .storeState | .log | .logOverflow => true
  | .fireStage | .lineFault | .callUrgent | .call | .callLost | .loopState => false

theorem raise_steady {c : Condition} (h : c.follows = true) (data : List Byte) (s : State) :
    (raise c data s).steady = s.steady := by
  have told : (raise c data s).link.told = s.link.told := by
    cases c <;> first | (exact absurd h (by decide)) | simp [Link.told, List.getElem?_modify, Condition.ctorIdx]
  have arms : (raise c data s).link.arms = s.link.arms := by simp [Link.arms, modify_raise_arms]
  simp only [State.steady, told, arms, Link.bare]
  simp

/-! ### Chain -/

theorem restFix_eq (c : Chain) : c.restFix =
    { c with restMs := if c.moving then 0 else c.restMs, parked := if c.moving then false else c.parked } := by
  unfold Chain.restFix
  split <;> simp_all

@[simp] theorem setChain_steady (st : ChainState) (s : State) : (setChain st s).steady = s.steady := by
  simp [State.steady, restFix_eq]

@[simp] theorem clearOutOrder_steady (s : State) : (clearOutOrder s).steady = s.steady := by
  unfold clearOutOrder; split <;> simp

@[simp] theorem stopChain_steady (s : State) : (stopChain s).steady = s.steady := by
  unfold stopChain; split <;> simp

@[simp] theorem parkTest_steady (s : State) : (parkTest s).steady = s.steady := by
  unfold parkTest; split <;> (try split) <;> (try split) <;> simp

@[simp] theorem restTest_steady (s : State) : (restTest s).steady = s.steady := by
  unfold restTest; split <;> (try split) <;> simp [State.steady]

@[simp] theorem chainSettle_steady (s : State) : (chainSettle s).steady = s.steady := by
  simp [chainSettle]

theorem haltNow_none_steady (cause : HaltCause) (s : State) : (haltNow cause none s).steady = s.steady := by
  simp only [haltNow, raise_steady (c := .chainHalt) rfl]
  exact setChain_steady _ s

@[simp] theorem haltIfRunning_steady (cause : HaltCause) (s : State) :
    (haltIfRunning cause s).steady = s.steady := by
  unfold haltIfRunning; split
  · exact haltNow_none_steady cause s
  · rfl

/-! ### Shutters -/

/-- Running states and the raise queue are no part of what is steady. -/
theorem units_steady (units : List (Option Shutter)) (queue : List Nat) (s : State) :
    ({ s with shutters := { s.shutters with units := units, raiseQueue := queue } } : State).steady = s.steady := rfl

@[simp] theorem putUnit_steady (n : Nat) (sh : Shutter) (s : State) : (putUnit n sh s).steady = s.steady := by
  unfold putUnit; simp only; split <;> first | exact raise_steady rfl _ _ | rfl

@[simp] theorem leaveQueue_steady (n : Nat) (s : State) : (leaveQueue n s).steady = s.steady := rfl

@[simp] theorem lowerOrder_steady (n : Nat) (s : State) : (lowerOrder n s).steady = s.steady := by
  unfold lowerOrder; split
  · split <;> simp
  · rfl

@[simp] theorem acceptRaise_steady (n : Nat) (sh : Shutter) (s : State) : (acceptRaise n sh s).steady = s.steady := by
  exact (units_steady _ _ _).trans (putUnit_steady n _ s)

@[simp] theorem raiseOrder_steady (o : Bool) (n : Nat) (s : State) : (raiseOrder o n s).2.steady = s.steady := by
  unfold raiseOrder; split
  · rfl
  · split; · rfl
    split; · rfl
    split; · rfl
    split
    · rfl
    · split <;> simp

@[simp] theorem startRaise_steady (n : Nat) (s : State) : (startRaise n s).steady = s.steady := by
  unfold startRaise; split
  · split
    · split <;> simp
    · rfl
  · rfl

theorem arbiterLoop_steady (k : Nat) (s : State) : (arbiterLoop k s).steady = s.steady := by
  induction k generalizing s with
  | zero => rfl
  | succ k ih =>
    unfold arbiterLoop; split
    · rfl
    · split
      · rw [ih, startRaise_steady]; rfl
      · rfl

@[simp] theorem arbiter_steady (s : State) : (arbiter s).steady = s.steady := arbiterLoop_steady _ s

@[simp] theorem nightCloseOrder_steady (s : State) : (nightCloseOrder s).steady = s.steady :=
  forShutters_view _ _ _ lowerOrder_steady s

@[simp] theorem morningRaise_steady (s : State) : (morningRaise s).steady = s.steady :=
  forShutters_view _ _ _ (fun n s => raiseOrder_steady false n s) s

/-! ### Boarding Monitor -/

@[simp] theorem resumeOnDwell_steady (n : Nat) (s : State) : (resumeOnDwell n s).steady = s.steady := by
  unfold resumeOnDwell; split
  · split
    · split <;> simp
    · rfl
  · rfl

@[simp] theorem finalIfClear_steady (n : Nat) (s : State) : (finalIfClear n s).steady = s.steady := by
  unfold finalIfClear; split
  · split
    · split <;> simp
    · rfl
  · rfl

@[simp] theorem conflictPause_steady (n : Nat) (s : State) : (conflictPause n s).steady = s.steady := by
  unfold conflictPause; split <;> simp

theorem latch_steady (b : Board) (s : State) : ({ s with board := b } : State).steady = s.steady := rfl

@[simp] theorem latchConflict_steady (n : Nat) (s : State) : (latchConflict n s).steady = s.steady := by
  simp only [latchConflict, raise_steady (c := .conflict) rfl, haltIfRunning_steady]; rfl

theorem takeFirst_steady (l : List Nat) (s : State) : (takeFirst l s).2.steady = s.steady := by
  unfold takeFirst; split <;> rfl

@[simp] theorem conflictCheck_steady (s : State) : (conflictCheck s).steady = s.steady := by
  unfold conflictCheck
  simp only
  rw [latch_steady, foldl_view State.steady _ (fun s n => conflictPause_steady n s)]
  split
  · have h := takeFirst_steady (s.conflicts.filter fun n => !s.board.inConflict.contains n) s
    split <;> simp_all
  · rfl

@[simp] theorem boardReact_steady (s : State) : (boardReact s).steady = s.steady := by
  unfold boardReact
  rw [conflictCheck_steady, forShutters_view _ _ _ finalIfClear_steady, forShutters_view _ _ _ resumeOnDwell_steady]

/-! ### Announcements -/

/-- Nothing of the sequencer is steady. -/
theorem announcer_steady (a : Announcer) (s : State) : ({ s with announcer := a } : State).steady = s.steady := rfl

@[simp] theorem setSlot_steady (n : Nat) (x : Slot) (s : State) : (setSlot n x s).steady = s.steady := rfl
@[simp] theorem setPlayer_steady (p : Player) (s : State) : (setPlayer p s).steady = s.steady := rfl
@[simp] theorem enterGap_steady (s : State) : (enterGap s).steady = s.steady := rfl
@[simp] theorem requestEnd_steady (e : EndRequest) (s : State) : (requestEnd e s).steady = s.steady := rfl

@[simp] theorem writeLog_steady (r : LogRec) (s : State) : (writeLog r s).steady = s.steady := by
  unfold writeLog; split <;> rw [raise_steady rfl] <;> rfl

@[simp] theorem logRun_steady (r : Run) (o : RunOutcome) (s : State) : (logRun r o s).steady = s.steady :=
  writeLog_steady _ s

@[simp] theorem logUnstarted_steady (src : Source) (x : Script) (n : Nat) (o : RunOutcome) (s : State) :
    (logUnstarted src x n o s).steady = s.steady := writeLog_steady _ s

@[simp] theorem freeSlot_steady (src : Source) (s : State) : (freeSlot src s).steady = s.steady := by
  unfold freeSlot; split <;> simp

@[simp] theorem completeRun_steady (r : Run) (s : State) : (completeRun r s).steady = s.steady := by
  unfold completeRun
  simp only [enterGap_steady]
  split
  · split
    · split <;> simp
    · simp
  · simp
  · split
    · rw [announcer_steady, logRun_steady]
    · simp

@[simp] theorem stopRun_steady (r : Run) (e : EndRequest) (last : Bool) (s : State) :
    (stopRun r e last s).steady = s.steady := by
  unfold stopRun; split
  · simp
  · simp
  · split
    · split <;> simp
    · simp
  · simp only; split
    · rw [enterGap_steady, announcer_steady, setSlot_steady, freeSlot_steady, logRun_steady]
    · simp

@[simp] theorem playFrom_steady (r : Run) (i : Nat) (s : State) : (playFrom r i s).steady = s.steady := by
  unfold playFrom; split <;> simp

@[simp] theorem startRun_steady (src : Source) (x : Script) (n : Nat) (s : State) :
    (startRun src x n s).steady = s.steady := by
  unfold startRun; simp only; split <;> simp

theorem select_steady {s t : State} (h : select s = some t) : t.steady = s.steady := by
  unfold select at h
  split at h
  · cases h
  · split at h
    · cases h; rw [startRun_steady, announcer_steady]
    · cases h; rw [startRun_steady, announcer_steady]
    · split at h
      · cases h
      · split at h
        · cases h
        · split at h
          · cases h; simp
          · cases h

theorem announceLoop_steady (k : Nat) (s : State) : (announceLoop k s).steady = s.steady := by
  induction k generalizing s with
  | zero => rfl
  | succ k ih =>
    unfold announceLoop; split
    · rw [ih, setPlayer_steady]
    · split
      · rfl
      · next h => rw [ih, select_steady h]
    · rfl

@[simp] theorem announceSettle_steady (s : State) : (announceSettle s).steady = s.steady := announceLoop_steady _ s

@[simp] theorem closingPost_steady (x : Script) (s : State) : (closingPost x s).steady = s.steady := by
  unfold closingPost; split
  · rfl
  · split
    · simp
    · simp
    · simp
    · simp only [requestEnd_steady, announcer_steady]
      split <;> simp

/-! ### Annunciators -/

@[simp] theorem setPattern_steady (q : QueueName) (p : Pattern) (s : State) : (setPattern q p s).steady = s.steady := by
  cases q <;> rfl

@[simp] theorem beginGroup_steady (q : QueueName) (next : NextGroup) (s : State) :
    (beginGroup q next s).steady = s.steady := by
  unfold beginGroup; split <;> simp

@[simp] theorem groupFallsDue_steady (q : QueueName) (next : NextGroup) (s : State) :
    (groupFallsDue q next s).steady = s.steady := by
  unfold groupFallsDue; split
  · simp
  · split <;> simp

@[simp] theorem releaseIfUnhushed_steady (q : QueueName) (s : State) : (releaseIfUnhushed q s).steady = s.steady := by
  unfold releaseIfUnhushed; split <;> simp

@[simp] theorem hushRelease_steady (s : State) : (hushRelease s).steady = s.steady := by simp [hushRelease]

/-! ### The store day -/

/-- What the store day keeps beside its clock, its schedule and its key is not steady. -/
theorem day_steady (d : Day) (s : State) (h : d.clock = s.day.clock) (h1 : d.schedule = s.day.schedule)
    (h2 : d.key = s.day.key) (h3 : d.keyHold = s.day.keyHold) :
    ({ s with day := d } : State).steady = s.steady := by
  simp [State.steady, h, h1, h2, h3]

@[simp] theorem changeStore_steady (new : StoreState) (cause : StoreCause) (s : State) :
    (changeStore new cause s).steady = s.steady := by
  simp only [changeStore, raise_steady (c := .storeState) rfl]; rfl

@[simp] theorem clearWakeFlags_steady (s : State) : (clearWakeFlags s).steady = s.steady := rfl

@[simp] theorem enterClearing_steady (cause : StoreCause) (s : State) : (enterClearing cause s).steady = s.steady := by
  simp only [enterClearing, clearOutOrder_steady, changeStore_steady]; rfl

@[simp] theorem enterShutting_steady (cause : StoreCause) (forced : Bool) (s : State) :
    (enterShutting cause forced s).steady = s.steady := by
  simp only [enterShutting, stopChain_steady, nightCloseOrder_steady, changeStore_steady]; rfl

@[simp] theorem enterOpening_steady (cause : StoreCause) (s : State) : (enterOpening cause s).steady = s.steady := by
  simp only [enterOpening, morningRaise_steady, changeStore_steady, clearWakeFlags_steady]; rfl

@[simp] theorem postStep_steady (o : Nat) (s : State) : (postStep o s).steady = s.steady := by
  unfold postStep; split <;> simp

@[simp] theorem enterClosing_steady (k x : Nat) (s : State) : (enterClosing k x s).steady = s.steady := by
  unfold enterClosing
  have h : (changeStore .closing .schedule
      { s with day := { s.day with posted := s.dueOffsets k x } }).steady = s.steady := by
    rw [changeStore_steady]; rfl
  simp only
  split <;> (first | rw [enterClearing_steady] | skip) <;> split <;> simp [h]

@[simp] theorem closeWindowTest_steady (s : State) : (closeWindowTest s).steady = s.steady := by
  unfold closeWindowTest; split
  · split <;> simp
  · rfl

@[simp] theorem enterTrading_steady (cause : StoreCause) (s : State) : (enterTrading cause s).steady = s.steady := by
  simp only [enterTrading, closeWindowTest_steady, changeStore_steady]; rfl

theorem wakingStep_steady {s t : State} (h : wakingStep s = some t) : t.steady = s.steady := by
  unfold wakingStep at h
  split at h
  · cases h; simp
  · split at h
    · cases h; simp
    · split at h
      · split at h
        · cases h; simp
        · split at h
          · cases h; simp
          · cases h
      · cases h; simp

theorem dayStep_steady {s t : State} (h : dayStep s = some t) : t.steady = s.steady := by
  unfold dayStep at h
  split at h
  · split at h <;> cases h; simp
  · split at h <;> cases h; simp
  · split at h <;> cases h; simp
  · exact wakingStep_steady h
  · split at h <;> cases h; simp
  all_goals cases h

@[simp] theorem motion_steady (s : State) : (motion s).steady = s.steady := by simp [motion]

theorem dayLoop_steady (k : Nat) (s : State) : (dayLoop k s).steady = s.steady := by
  induction k generalizing s with
  | zero => rfl
  | succ k ih =>
    unfold dayLoop; split
    · rfl
    · next h => rw [ih, motion_steady, dayStep_steady h]

/-- Whatever follows a change at the same moment, the steady part of the state stands. -/
@[simp] theorem settle_steady (s : State) : (settle s).steady = s.steady := by
  simp [settle, dayLoop_steady]

end Sys2Proof.Machine
end

