-- ==== Sys2Proof/Laws/Views.lean ====
section
/-! SUPPORT. Which blocks each operation leaves alone, one lemma for each operation and block: the chain's operations touch
no shutter, the shutters' operations no announcement, and so on. -/

namespace Sys2Proof.Machine


/-! ### The store day -/

@[simp] theorem clearOutOrder_day (s : State) : (clearOutOrder s).day = s.day := by
  unfold clearOutOrder; split <;> rfl
@[simp] theorem stopChain_day (s : State) : (stopChain s).day = s.day := by
  unfold stopChain; split <;> rfl
@[simp] theorem parkTest_day (s : State) : (parkTest s).day = s.day := by
  unfold parkTest; split <;> (try split) <;> (try split) <;> rfl
@[simp] theorem restTest_day (s : State) : (restTest s).day = s.day := by
  unfold restTest; split <;> (try split) <;> rfl
@[simp] theorem chainSettle_day (s : State) : (chainSettle s).day = s.day := by
  simp [chainSettle]
@[simp] theorem haltNow_day (cause : HaltCause) (code : Option Nat) (s : State) : (haltNow cause code s).day = s.day := by
  rfl
@[simp] theorem haltIfRunning_day (cause : HaltCause) (s : State) : (haltIfRunning cause s).day = s.day := by
  unfold haltIfRunning; split <;> rfl
@[simp] theorem putUnit_day (n : Nat) (sh : Shutter) (s : State) : (putUnit n sh s).day = s.day := by
  unfold putUnit; simp only; split <;> rfl
@[simp] theorem lowerOrder_day (n : Nat) (s : State) : (lowerOrder n s).day = s.day := by
  unfold lowerOrder; split
  · split <;> simp
  · rfl
@[simp] theorem acceptRaise_day (n : Nat) (sh : Shutter) (s : State) : (acceptRaise n sh s).day = s.day := by
  simp [acceptRaise]
@[simp] theorem raiseOrder_day (o : Bool) (n : Nat) (s : State) : ((raiseOrder o n s).2).day = s.day := by
  unfold raiseOrder; split
  · rfl
  · split; · rfl
    split; · rfl
    split; · rfl
    split
    · rfl
    · split <;> simp
@[simp] theorem startRaise_day (n : Nat) (s : State) : (startRaise n s).day = s.day := by
  unfold startRaise; split
  · split
    · split <;> simp
    · rfl
  · rfl
@[simp] theorem arbiterLoop_day (k : Nat) (s : State) : (arbiterLoop k s).day = s.day := by
  induction k generalizing s with
  | zero => rfl
  | succ k ih =>
    unfold arbiterLoop; split
    · rfl
    · split
      · rw [ih, startRaise_day]
      · rfl
@[simp] theorem arbiter_day (s : State) : (arbiter s).day = s.day := by
  simp [arbiter]
@[simp] theorem nightCloseOrder_day (s : State) : (nightCloseOrder s).day = s.day := by
  exact forShutters_view State.day _ _ lowerOrder_day s
@[simp] theorem morningRaise_day (s : State) : (morningRaise s).day = s.day := by
  exact forShutters_view State.day _ _ (fun n s => raiseOrder_day false n s) s
@[simp] theorem resumeOnDwell_day (n : Nat) (s : State) : (resumeOnDwell n s).day = s.day := by
  unfold resumeOnDwell; split
  · split
    · split <;> simp
    · rfl
  · rfl
@[simp] theorem finalIfClear_day (n : Nat) (s : State) : (finalIfClear n s).day = s.day := by
  unfold finalIfClear; split
  · split
    · split <;> simp
    · rfl
  · rfl
@[simp] theorem conflictPause_day (n : Nat) (s : State) : (conflictPause n s).day = s.day := by
  unfold conflictPause; split <;> simp
@[simp] theorem latchConflict_day (n : Nat) (s : State) : (latchConflict n s).day = s.day := by
  simp [latchConflict]
@[simp] theorem takeFirst_day (l : List Nat) (s : State) : ((takeFirst l s).2).day = s.day := by
  unfold takeFirst; split <;> rfl
@[simp] theorem conflictCheck_day (s : State) : (conflictCheck s).day = s.day := by
  unfold conflictCheck
  simp only
  refine (foldl_view State.day _ (fun s n => conflictPause_day n s) _ _).trans ?_
  split
  · split <;> rename_i heq <;> have h := congrArg (fun x => x.2.day) heq <;> simp at h <;> simp [h]
  · rfl
@[simp] theorem boardReact_day (s : State) : (boardReact s).day = s.day := by
  unfold boardReact
  rw [conflictCheck_day, forShutters_view State.day _ _ finalIfClear_day, forShutters_view State.day _ _ resumeOnDwell_day]
@[simp] theorem enterGap_day (s : State) : (enterGap s).day = s.day := by
  rfl
@[simp] theorem requestEnd_day (e : EndRequest) (s : State) : (requestEnd e s).day = s.day := by
  rfl
@[simp] theorem writeLog_day (r : LogRec) (s : State) : (writeLog r s).day = s.day := by
  unfold writeLog; split <;> rfl
@[simp] theorem logRun_day (r : Run) (o : RunOutcome) (s : State) : (logRun r o s).day = s.day := by
  simp [logRun]
@[simp] theorem logUnstarted_day (src : Source) (x : Script) (n : Nat) (o : RunOutcome) (s : State) : (logUnstarted src x n o s).day = s.day := by
  simp [logUnstarted]
@[simp] theorem freeSlot_day (src : Source) (s : State) : (freeSlot src s).day = s.day := by
  unfold freeSlot; split <;> rfl
@[simp] theorem completeRun_day (r : Run) (s : State) : (completeRun r s).day = s.day := by
  unfold completeRun
  simp only [enterGap_day]
  split
  · split
    · split <;> simp
    · simp
  · simp
  · split <;> simp
@[simp] theorem stopRun_day (r : Run) (e : EndRequest) (last : Bool) (s : State) : (stopRun r e last s).day = s.day := by
  unfold stopRun; split
  · simp
  · simp
  · split
    · split <;> simp
    · simp
  · simp only; split <;> simp
@[simp] theorem playFrom_day (r : Run) (i : Nat) (s : State) : (playFrom r i s).day = s.day := by
  unfold playFrom; split <;> simp
@[simp] theorem startRun_day (src : Source) (x : Script) (n : Nat) (s : State) : (startRun src x n s).day = s.day := by
  unfold startRun; simp only; split <;> simp
theorem select_day {s t : State} (h : select s = some t) : t.day = s.day := by
  unfold select at h
  split at h
  · cases h
  · split at h
    · cases h; simp
    · cases h; simp
    · split at h
      · cases h
      · split at h
        · cases h
        · split at h
          · cases h; simp
          · cases h
theorem announceLoop_day (k : Nat) (s : State) : (announceLoop k s).day = s.day := by
  induction k generalizing s with
  | zero => rfl
  | succ k ih =>
    unfold announceLoop; split
    · rw [ih, setPlayer_day]
    · split
      · rfl
      · next h => rw [ih, select_day h]
    · rfl
@[simp] theorem announceSettle_day (s : State) : (announceSettle s).day = s.day := by
  exact announceLoop_day _ s
@[simp] theorem closingPost_day (x : Script) (s : State) : (closingPost x s).day = s.day := by
  unfold closingPost; split
  · rfl
  · split
    · simp
    · simp
    · simp
    · simp only [requestEnd_day]
      split <;> simp
@[simp] theorem postStep_day (o : Nat) (s : State) : (postStep o s).day = s.day := by
  unfold postStep; split <;> simp
@[simp] theorem beginGroup_day (q : QueueName) (next : NextGroup) (s : State) : (beginGroup q next s).day = s.day := by
  unfold beginGroup; split <;> simp
@[simp] theorem groupFallsDue_day (q : QueueName) (next : NextGroup) (s : State) : (groupFallsDue q next s).day = s.day := by
  unfold groupFallsDue; split
  · simp
  · split <;> simp
@[simp] theorem releaseIfUnhushed_day (q : QueueName) (s : State) : (releaseIfUnhushed q s).day = s.day := by
  unfold releaseIfUnhushed; split <;> simp
@[simp] theorem hushRelease_day (s : State) : (hushRelease s).day = s.day := by
  simp [hushRelease]
@[simp] theorem motion_day (s : State) : (motion s).day = s.day := by simp [motion]

/-! ### The chain -/

@[simp] theorem putUnit_chain (n : Nat) (sh : Shutter) (s : State) : (putUnit n sh s).chain = s.chain := by
  unfold putUnit; simp only; split <;> rfl
@[simp] theorem lowerOrder_chain (n : Nat) (s : State) : (lowerOrder n s).chain = s.chain := by
  unfold lowerOrder; split
  · split <;> simp
  · rfl
@[simp] theorem acceptRaise_chain (n : Nat) (sh : Shutter) (s : State) : (acceptRaise n sh s).chain = s.chain := by
  simp [acceptRaise]
@[simp] theorem raiseOrder_chain (o : Bool) (n : Nat) (s : State) : ((raiseOrder o n s).2).chain = s.chain := by
  unfold raiseOrder; split
  · rfl
  · split; · rfl
    split; · rfl
    split; · rfl
    split
    · rfl
    · split <;> simp
@[simp] theorem startRaise_chain (n : Nat) (s : State) : (startRaise n s).chain = s.chain := by
  unfold startRaise; split
  · split
    · split <;> simp
    · rfl
  · rfl
@[simp] theorem arbiterLoop_chain (k : Nat) (s : State) : (arbiterLoop k s).chain = s.chain := by
  induction k generalizing s with
  | zero => rfl
  | succ k ih =>
    unfold arbiterLoop; split
    · rfl
    · split
      · rw [ih, startRaise_chain]
      · rfl
@[simp] theorem arbiter_chain (s : State) : (arbiter s).chain = s.chain := by
  simp [arbiter]
@[simp] theorem nightCloseOrder_chain (s : State) : (nightCloseOrder s).chain = s.chain := by
  exact forShutters_view State.chain _ _ lowerOrder_chain s
@[simp] theorem morningRaise_chain (s : State) : (morningRaise s).chain = s.chain := by
  exact forShutters_view State.chain _ _ (fun n s => raiseOrder_chain false n s) s
@[simp] theorem resumeOnDwell_chain (n : Nat) (s : State) : (resumeOnDwell n s).chain = s.chain := by
  unfold resumeOnDwell; split
  · split
    · split <;> simp
    · rfl
  · rfl
@[simp] theorem finalIfClear_chain (n : Nat) (s : State) : (finalIfClear n s).chain = s.chain := by
  unfold finalIfClear; split
  · split
    · split <;> simp
    · rfl
  · rfl
@[simp] theorem conflictPause_chain (n : Nat) (s : State) : (conflictPause n s).chain = s.chain := by
  unfold conflictPause; split <;> simp
@[simp] theorem takeFirst_chain (l : List Nat) (s : State) : ((takeFirst l s).2).chain = s.chain := by
  unfold takeFirst; split <;> rfl
@[simp] theorem enterGap_chain (s : State) : (enterGap s).chain = s.chain := by
  rfl
@[simp] theorem requestEnd_chain (e : EndRequest) (s : State) : (requestEnd e s).chain = s.chain := by
  rfl
@[simp] theorem writeLog_chain (r : LogRec) (s : State) : (writeLog r s).chain = s.chain := by
  unfold writeLog; split <;> rfl
@[simp] theorem logRun_chain (r : Run) (o : RunOutcome) (s : State) : (logRun r o s).chain = s.chain := by
  simp [logRun]
@[simp] theorem logUnstarted_chain (src : Source) (x : Script) (n : Nat) (o : RunOutcome) (s : State) : (logUnstarted src x n o s).chain = s.chain := by
  simp [logUnstarted]
@[simp] theorem freeSlot_chain (src : Source) (s : State) : (freeSlot src s).chain = s.chain := by
  unfold freeSlot; split <;> rfl
@[simp] theorem completeRun_chain (r : Run) (s : State) : (completeRun r s).chain = s.chain := by
  unfold completeRun
  simp only [enterGap_chain]
  split
  · split
    · split <;> simp
    · simp
  · simp
  · split <;> simp
@[simp] theorem stopRun_chain (r : Run) (e : EndRequest) (last : Bool) (s : State) : (stopRun r e last s).chain = s.chain := by
  unfold stopRun; split
  · simp
  · simp
  · split
    · split <;> simp
    · simp
  · simp only; split <;> simp
@[simp] theorem playFrom_chain (r : Run) (i : Nat) (s : State) : (playFrom r i s).chain = s.chain := by
  unfold playFrom; split <;> simp
@[simp] theorem startRun_chain (src : Source) (x : Script) (n : Nat) (s : State) : (startRun src x n s).chain = s.chain := by
  unfold startRun; simp only; split <;> simp
theorem select_chain {s t : State} (h : select s = some t) : t.chain = s.chain := by
  unfold select at h
  split at h
  · cases h
  · split at h
    · cases h; simp
    · cases h; simp
    · split at h
      · cases h
      · split at h
        · cases h
        · split at h
          · cases h; simp
          · cases h
theorem announceLoop_chain (k : Nat) (s : State) : (announceLoop k s).chain = s.chain := by
  induction k generalizing s with
  | zero => rfl
  | succ k ih =>
    unfold announceLoop; split
    · rw [ih, setPlayer_chain]
    · split
      · rfl
      · next h => rw [ih, select_chain h]
    · rfl
@[simp] theorem announceSettle_chain (s : State) : (announceSettle s).chain = s.chain := by
  exact announceLoop_chain _ s
@[simp] theorem closingPost_chain (x : Script) (s : State) : (closingPost x s).chain = s.chain := by
  unfold closingPost; split
  · rfl
  · split
    · simp
    · simp
    · simp
    · simp only [requestEnd_chain]
      split <;> simp
@[simp] theorem postStep_chain (o : Nat) (s : State) : (postStep o s).chain = s.chain := by
  unfold postStep; split <;> simp
@[simp] theorem beginGroup_chain (q : QueueName) (next : NextGroup) (s : State) : (beginGroup q next s).chain = s.chain := by
  unfold beginGroup; split <;> simp
@[simp] theorem groupFallsDue_chain (q : QueueName) (next : NextGroup) (s : State) : (groupFallsDue q next s).chain = s.chain := by
  unfold groupFallsDue; split
  · simp
  · split <;> simp
@[simp] theorem releaseIfUnhushed_chain (q : QueueName) (s : State) : (releaseIfUnhushed q s).chain = s.chain := by
  unfold releaseIfUnhushed; split <;> simp
@[simp] theorem hushRelease_chain (s : State) : (hushRelease s).chain = s.chain := by
  simp [hushRelease]

/-! ### The shutters -/

@[simp] theorem clearOutOrder_shutters (s : State) : (clearOutOrder s).shutters = s.shutters := by
  unfold clearOutOrder; split <;> rfl
@[simp] theorem stopChain_shutters (s : State) : (stopChain s).shutters = s.shutters := by
  unfold stopChain; split <;> rfl
@[simp] theorem parkTest_shutters (s : State) : (parkTest s).shutters = s.shutters := by
  unfold parkTest; split <;> (try split) <;> (try split) <;> rfl
@[simp] theorem restTest_shutters (s : State) : (restTest s).shutters = s.shutters := by
  unfold restTest; split <;> (try split) <;> rfl
@[simp] theorem chainSettle_shutters (s : State) : (chainSettle s).shutters = s.shutters := by
  simp [chainSettle]
@[simp] theorem haltNow_shutters (cause : HaltCause) (code : Option Nat) (s : State) : (haltNow cause code s).shutters = s.shutters := by
  rfl
@[simp] theorem haltIfRunning_shutters (cause : HaltCause) (s : State) : (haltIfRunning cause s).shutters = s.shutters := by
  unfold haltIfRunning; split <;> rfl
@[simp] theorem latchConflict_shutters (n : Nat) (s : State) : (latchConflict n s).shutters = s.shutters := by
  simp [latchConflict]
@[simp] theorem takeFirst_shutters (l : List Nat) (s : State) : ((takeFirst l s).2).shutters = s.shutters := by
  unfold takeFirst; split <;> rfl
@[simp] theorem enterGap_shutters (s : State) : (enterGap s).shutters = s.shutters := by
  rfl
@[simp] theorem requestEnd_shutters (e : EndRequest) (s : State) : (requestEnd e s).shutters = s.shutters := by
  rfl
@[simp] theorem writeLog_shutters (r : LogRec) (s : State) : (writeLog r s).shutters = s.shutters := by
  unfold writeLog; split <;> rfl
@[simp] theorem logRun_shutters (r : Run) (o : RunOutcome) (s : State) : (logRun r o s).shutters = s.shutters := by
  simp [logRun]
@[simp] theorem logUnstarted_shutters (src : Source) (x : Script) (n : Nat) (o : RunOutcome) (s : State) : (logUnstarted src x n o s).shutters = s.shutters := by
  simp [logUnstarted]
@[simp] theorem freeSlot_shutters (src : Source) (s : State) : (freeSlot src s).shutters = s.shutters := by
  unfold freeSlot; split <;> rfl
@[simp] theorem completeRun_shutters (r : Run) (s : State) : (completeRun r s).shutters = s.shutters := by
  unfold completeRun
  simp only [enterGap_shutters]
  split
  · split
    · split <;> simp
    · simp
  · simp
  · split <;> simp
@[simp] theorem stopRun_shutters (r : Run) (e : EndRequest) (last : Bool) (s : State) : (stopRun r e last s).shutters = s.shutters := by
  unfold stopRun; split
  · simp
  · simp
  · split
    · split <;> simp
    · simp
  · simp only; split <;> simp
@[simp] theorem playFrom_shutters (r : Run) (i : Nat) (s : State) : (playFrom r i s).shutters = s.shutters := by
  unfold playFrom; split <;> simp
@[simp] theorem startRun_shutters (src : Source) (x : Script) (n : Nat) (s : State) : (startRun src x n s).shutters = s.shutters := by
  unfold startRun; simp only; split <;> simp
theorem select_shutters {s t : State} (h : select s = some t) : t.shutters = s.shutters := by
  unfold select at h
  split at h
  · cases h
  · split at h
    · cases h; simp
    · cases h; simp
    · split at h
      · cases h
      · split at h
        · cases h
        · split at h
          · cases h; simp
          · cases h
theorem announceLoop_shutters (k : Nat) (s : State) : (announceLoop k s).shutters = s.shutters := by
  induction k generalizing s with
  | zero => rfl
  | succ k ih =>
    unfold announceLoop; split
    · rw [ih, setPlayer_shutters]
    · split
      · rfl
      · next h => rw [ih, select_shutters h]
    · rfl
@[simp] theorem announceSettle_shutters (s : State) : (announceSettle s).shutters = s.shutters := by
  exact announceLoop_shutters _ s
@[simp] theorem closingPost_shutters (x : Script) (s : State) : (closingPost x s).shutters = s.shutters := by
  unfold closingPost; split
  · rfl
  · split
    · simp
    · simp
    · simp
    · simp only [requestEnd_shutters]
      split <;> simp
@[simp] theorem postStep_shutters (o : Nat) (s : State) : (postStep o s).shutters = s.shutters := by
  unfold postStep; split <;> simp
@[simp] theorem beginGroup_shutters (q : QueueName) (next : NextGroup) (s : State) : (beginGroup q next s).shutters = s.shutters := by
  unfold beginGroup; split <;> simp
@[simp] theorem groupFallsDue_shutters (q : QueueName) (next : NextGroup) (s : State) : (groupFallsDue q next s).shutters = s.shutters := by
  unfold groupFallsDue; split
  · simp
  · split <;> simp
@[simp] theorem releaseIfUnhushed_shutters (q : QueueName) (s : State) : (releaseIfUnhushed q s).shutters = s.shutters := by
  unfold releaseIfUnhushed; split <;> simp
@[simp] theorem hushRelease_shutters (s : State) : (hushRelease s).shutters = s.shutters := by
  simp [hushRelease]

/-! ### The conflict latch -/

@[simp] theorem clearOutOrder_board (s : State) : (clearOutOrder s).board = s.board := by
  unfold clearOutOrder; split <;> rfl
@[simp] theorem stopChain_board (s : State) : (stopChain s).board = s.board := by
  unfold stopChain; split <;> rfl
@[simp] theorem parkTest_board (s : State) : (parkTest s).board = s.board := by
  unfold parkTest; split <;> (try split) <;> (try split) <;> rfl
@[simp] theorem restTest_board (s : State) : (restTest s).board = s.board := by
  unfold restTest; split <;> (try split) <;> rfl
@[simp] theorem chainSettle_board (s : State) : (chainSettle s).board = s.board := by
  simp [chainSettle]
@[simp] theorem haltNow_board (cause : HaltCause) (code : Option Nat) (s : State) : (haltNow cause code s).board = s.board := by
  rfl
@[simp] theorem haltIfRunning_board (cause : HaltCause) (s : State) : (haltIfRunning cause s).board = s.board := by
  unfold haltIfRunning; split <;> rfl
@[simp] theorem putUnit_board (n : Nat) (sh : Shutter) (s : State) : (putUnit n sh s).board = s.board := by
  unfold putUnit; simp only; split <;> rfl
@[simp] theorem lowerOrder_board (n : Nat) (s : State) : (lowerOrder n s).board = s.board := by
  unfold lowerOrder; split
  · split <;> simp
  · rfl
@[simp] theorem acceptRaise_board (n : Nat) (sh : Shutter) (s : State) : (acceptRaise n sh s).board = s.board := by
  simp [acceptRaise]
@[simp] theorem raiseOrder_board (o : Bool) (n : Nat) (s : State) : ((raiseOrder o n s).2).board = s.board := by
  unfold raiseOrder; split
  · rfl
  · split; · rfl
    split; · rfl
    split; · rfl
    split
    · rfl
    · split <;> simp
@[simp] theorem startRaise_board (n : Nat) (s : State) : (startRaise n s).board = s.board := by
  unfold startRaise; split
  · split
    · split <;> simp
    · rfl
  · rfl
@[simp] theorem arbiterLoop_board (k : Nat) (s : State) : (arbiterLoop k s).board = s.board := by
  induction k generalizing s with
  | zero => rfl
  | succ k ih =>
    unfold arbiterLoop; split
    · rfl
    · split
      · rw [ih, startRaise_board]
      · rfl
@[simp] theorem arbiter_board (s : State) : (arbiter s).board = s.board := by
  simp [arbiter]
@[simp] theorem nightCloseOrder_board (s : State) : (nightCloseOrder s).board = s.board := by
  exact forShutters_view State.board _ _ lowerOrder_board s
@[simp] theorem morningRaise_board (s : State) : (morningRaise s).board = s.board := by
  exact forShutters_view State.board _ _ (fun n s => raiseOrder_board false n s) s
@[simp] theorem resumeOnDwell_board (n : Nat) (s : State) : (resumeOnDwell n s).board = s.board := by
  unfold resumeOnDwell; split
  · split
    · split <;> simp
    · rfl
  · rfl
@[simp] theorem finalIfClear_board (n : Nat) (s : State) : (finalIfClear n s).board = s.board := by
  unfold finalIfClear; split
  · split
    · split <;> simp
    · rfl
  · rfl
@[simp] theorem conflictPause_board (n : Nat) (s : State) : (conflictPause n s).board = s.board := by
  unfold conflictPause; split <;> simp
@[simp] theorem enterGap_board (s : State) : (enterGap s).board = s.board := by
  rfl
@[simp] theorem requestEnd_board (e : EndRequest) (s : State) : (requestEnd e s).board = s.board := by
  rfl
@[simp] theorem writeLog_board (r : LogRec) (s : State) : (writeLog r s).board = s.board := by
  unfold writeLog; split <;> rfl
@[simp] theorem logRun_board (r : Run) (o : RunOutcome) (s : State) : (logRun r o s).board = s.board := by
  simp [logRun]
@[simp] theorem logUnstarted_board (src : Source) (x : Script) (n : Nat) (o : RunOutcome) (s : State) : (logUnstarted src x n o s).board = s.board := by
  simp [logUnstarted]
@[simp] theorem freeSlot_board (src : Source) (s : State) : (freeSlot src s).board = s.board := by
  unfold freeSlot; split <;> rfl
@[simp] theorem completeRun_board (r : Run) (s : State) : (completeRun r s).board = s.board := by
  unfold completeRun
  simp only [enterGap_board]
  split
  · split
    · split <;> simp
    · simp
  · simp
  · split <;> simp
@[simp] theorem stopRun_board (r : Run) (e : EndRequest) (last : Bool) (s : State) : (stopRun r e last s).board = s.board := by
  unfold stopRun; split
  · simp
  · simp
  · split
    · split <;> simp
    · simp
  · simp only; split <;> simp
@[simp] theorem playFrom_board (r : Run) (i : Nat) (s : State) : (playFrom r i s).board = s.board := by
  unfold playFrom; split <;> simp
@[simp] theorem startRun_board (src : Source) (x : Script) (n : Nat) (s : State) : (startRun src x n s).board = s.board := by
  unfold startRun; simp only; split <;> simp
theorem select_board {s t : State} (h : select s = some t) : t.board = s.board := by
  unfold select at h
  split at h
  · cases h
  · split at h
    · cases h; simp
    · cases h; simp
    · split at h
      · cases h
      · split at h
        · cases h
        · split at h
          · cases h; simp
          · cases h
theorem announceLoop_board (k : Nat) (s : State) : (announceLoop k s).board = s.board := by
  induction k generalizing s with
  | zero => rfl
  | succ k ih =>
    unfold announceLoop; split
    · rw [ih, setPlayer_board]
    · split
      · rfl
      · next h => rw [ih, select_board h]
    · rfl
@[simp] theorem announceSettle_board (s : State) : (announceSettle s).board = s.board := by
  exact announceLoop_board _ s
@[simp] theorem closingPost_board (x : Script) (s : State) : (closingPost x s).board = s.board := by
  unfold closingPost; split
  · rfl
  · split
    · simp
    · simp
    · simp
    · simp only [requestEnd_board]
      split <;> simp
@[simp] theorem postStep_board (o : Nat) (s : State) : (postStep o s).board = s.board := by
  unfold postStep; split <;> simp
@[simp] theorem beginGroup_board (q : QueueName) (next : NextGroup) (s : State) : (beginGroup q next s).board = s.board := by
  unfold beginGroup; split <;> simp
@[simp] theorem groupFallsDue_board (q : QueueName) (next : NextGroup) (s : State) : (groupFallsDue q next s).board = s.board := by
  unfold groupFallsDue; split
  · simp
  · split <;> simp
@[simp] theorem releaseIfUnhushed_board (q : QueueName) (s : State) : (releaseIfUnhushed q s).board = s.board := by
  unfold releaseIfUnhushed; split <;> simp
@[simp] theorem hushRelease_board (s : State) : (hushRelease s).board = s.board := by
  simp [hushRelease]

/-! ### The announcements -/

@[simp] theorem clearOutOrder_announcer (s : State) : (clearOutOrder s).announcer = s.announcer := by
  unfold clearOutOrder; split <;> rfl
@[simp] theorem stopChain_announcer (s : State) : (stopChain s).announcer = s.announcer := by
  unfold stopChain; split <;> rfl
@[simp] theorem parkTest_announcer (s : State) : (parkTest s).announcer = s.announcer := by
  unfold parkTest; split <;> (try split) <;> (try split) <;> rfl
@[simp] theorem restTest_announcer (s : State) : (restTest s).announcer = s.announcer := by
  unfold restTest; split <;> (try split) <;> rfl
@[simp] theorem chainSettle_announcer (s : State) : (chainSettle s).announcer = s.announcer := by
  simp [chainSettle]
@[simp] theorem haltNow_announcer (cause : HaltCause) (code : Option Nat) (s : State) : (haltNow cause code s).announcer = s.announcer := by
  rfl
@[simp] theorem haltIfRunning_announcer (cause : HaltCause) (s : State) : (haltIfRunning cause s).announcer = s.announcer := by
  unfold haltIfRunning; split <;> rfl
@[simp] theorem putUnit_announcer (n : Nat) (sh : Shutter) (s : State) : (putUnit n sh s).announcer = s.announcer := by
  unfold putUnit; simp only; split <;> rfl
@[simp] theorem lowerOrder_announcer (n : Nat) (s : State) : (lowerOrder n s).announcer = s.announcer := by
  unfold lowerOrder; split
  · split <;> simp
  · rfl
@[simp] theorem acceptRaise_announcer (n : Nat) (sh : Shutter) (s : State) : (acceptRaise n sh s).announcer = s.announcer := by
  simp [acceptRaise]
@[simp] theorem raiseOrder_announcer (o : Bool) (n : Nat) (s : State) : ((raiseOrder o n s).2).announcer = s.announcer := by
  unfold raiseOrder; split
  · rfl
  · split; · rfl
    split; · rfl
    split; · rfl
    split
    · rfl
    · split <;> simp
@[simp] theorem startRaise_announcer (n : Nat) (s : State) : (startRaise n s).announcer = s.announcer := by
  unfold startRaise; split
  · split
    · split <;> simp
    · rfl
  · rfl
@[simp] theorem arbiterLoop_announcer (k : Nat) (s : State) : (arbiterLoop k s).announcer = s.announcer := by
  induction k generalizing s with
  | zero => rfl
  | succ k ih =>
    unfold arbiterLoop; split
    · rfl
    · split
      · rw [ih, startRaise_announcer]
      · rfl
@[simp] theorem arbiter_announcer (s : State) : (arbiter s).announcer = s.announcer := by
  simp [arbiter]
@[simp] theorem nightCloseOrder_announcer (s : State) : (nightCloseOrder s).announcer = s.announcer := by
  exact forShutters_view State.announcer _ _ lowerOrder_announcer s
@[simp] theorem morningRaise_announcer (s : State) : (morningRaise s).announcer = s.announcer := by
  exact forShutters_view State.announcer _ _ (fun n s => raiseOrder_announcer false n s) s
@[simp] theorem resumeOnDwell_announcer (n : Nat) (s : State) : (resumeOnDwell n s).announcer = s.announcer := by
  unfold resumeOnDwell; split
  · split
    · split <;> simp
    · rfl
  · rfl
@[simp] theorem finalIfClear_announcer (n : Nat) (s : State) : (finalIfClear n s).announcer = s.announcer := by
  unfold finalIfClear; split
  · split
    · split <;> simp
    · rfl
  · rfl
@[simp] theorem conflictPause_announcer (n : Nat) (s : State) : (conflictPause n s).announcer = s.announcer := by
  unfold conflictPause; split <;> simp
@[simp] theorem latchConflict_announcer (n : Nat) (s : State) : (latchConflict n s).announcer = s.announcer := by
  simp [latchConflict]
@[simp] theorem takeFirst_announcer (l : List Nat) (s : State) : ((takeFirst l s).2).announcer = s.announcer := by
  unfold takeFirst; split <;> rfl
@[simp] theorem conflictCheck_announcer (s : State) : (conflictCheck s).announcer = s.announcer := by
  unfold conflictCheck
  simp only
  refine (foldl_view State.announcer _ (fun s n => conflictPause_announcer n s) _ _).trans ?_
  split
  · split <;> rename_i heq <;> have h := congrArg (fun x => x.2.announcer) heq <;> simp at h <;> simp [h]
  · rfl
@[simp] theorem boardReact_announcer (s : State) : (boardReact s).announcer = s.announcer := by
  unfold boardReact
  rw [conflictCheck_announcer, forShutters_view State.announcer _ _ finalIfClear_announcer, forShutters_view State.announcer _ _ resumeOnDwell_announcer]
@[simp] theorem beginGroup_announcer (q : QueueName) (next : NextGroup) (s : State) : (beginGroup q next s).announcer = s.announcer := by
  unfold beginGroup; split <;> simp
@[simp] theorem groupFallsDue_announcer (q : QueueName) (next : NextGroup) (s : State) : (groupFallsDue q next s).announcer = s.announcer := by
  unfold groupFallsDue; split
  · simp
  · split <;> simp
@[simp] theorem releaseIfUnhushed_announcer (q : QueueName) (s : State) : (releaseIfUnhushed q s).announcer = s.announcer := by
  unfold releaseIfUnhushed; split <;> simp
@[simp] theorem hushRelease_announcer (s : State) : (hushRelease s).announcer = s.announcer := by
  simp [hushRelease]

/-! ### The queues with their annunciators -/

@[simp] theorem clearOutOrder_calls (s : State) : (clearOutOrder s).calls = s.calls := by
  unfold clearOutOrder; split <;> rfl
@[simp] theorem stopChain_calls (s : State) : (stopChain s).calls = s.calls := by
  unfold stopChain; split <;> rfl
@[simp] theorem parkTest_calls (s : State) : (parkTest s).calls = s.calls := by
  unfold parkTest; split <;> (try split) <;> (try split) <;> rfl
@[simp] theorem restTest_calls (s : State) : (restTest s).calls = s.calls := by
  unfold restTest; split <;> (try split) <;> rfl
@[simp] theorem chainSettle_calls (s : State) : (chainSettle s).calls = s.calls := by
  simp [chainSettle]
@[simp] theorem haltNow_calls (cause : HaltCause) (code : Option Nat) (s : State) : (haltNow cause code s).calls = s.calls := by
  rfl
@[simp] theorem haltIfRunning_calls (cause : HaltCause) (s : State) : (haltIfRunning cause s).calls = s.calls := by
  unfold haltIfRunning; split <;> rfl
@[simp] theorem putUnit_calls (n : Nat) (sh : Shutter) (s : State) : (putUnit n sh s).calls = s.calls := by
  unfold putUnit; simp only; split <;> rfl
@[simp] theorem lowerOrder_calls (n : Nat) (s : State) : (lowerOrder n s).calls = s.calls := by
  unfold lowerOrder; split
  · split <;> simp
  · rfl
@[simp] theorem acceptRaise_calls (n : Nat) (sh : Shutter) (s : State) : (acceptRaise n sh s).calls = s.calls := by
  simp [acceptRaise]
@[simp] theorem raiseOrder_calls (o : Bool) (n : Nat) (s : State) : ((raiseOrder o n s).2).calls = s.calls := by
  unfold raiseOrder; split
  · rfl
  · split; · rfl
    split; · rfl
    split; · rfl
    split
    · rfl
    · split <;> simp
@[simp] theorem startRaise_calls (n : Nat) (s : State) : (startRaise n s).calls = s.calls := by
  unfold startRaise; split
  · split
    · split <;> simp
    · rfl
  · rfl
@[simp] theorem arbiterLoop_calls (k : Nat) (s : State) : (arbiterLoop k s).calls = s.calls := by
  induction k generalizing s with
  | zero => rfl
  | succ k ih =>
    unfold arbiterLoop; split
    · rfl
    · split
      · rw [ih, startRaise_calls]
      · rfl
@[simp] theorem arbiter_calls (s : State) : (arbiter s).calls = s.calls := by
  simp [arbiter]
@[simp] theorem nightCloseOrder_calls (s : State) : (nightCloseOrder s).calls = s.calls := by
  exact forShutters_view State.calls _ _ lowerOrder_calls s
@[simp] theorem morningRaise_calls (s : State) : (morningRaise s).calls = s.calls := by
  exact forShutters_view State.calls _ _ (fun n s => raiseOrder_calls false n s) s
@[simp] theorem resumeOnDwell_calls (n : Nat) (s : State) : (resumeOnDwell n s).calls = s.calls := by
  unfold resumeOnDwell; split
  · split
    · split <;> simp
    · rfl
  · rfl
@[simp] theorem finalIfClear_calls (n : Nat) (s : State) : (finalIfClear n s).calls = s.calls := by
  unfold finalIfClear; split
  · split
    · split <;> simp
    · rfl
  · rfl
@[simp] theorem conflictPause_calls (n : Nat) (s : State) : (conflictPause n s).calls = s.calls := by
  unfold conflictPause; split <;> simp
@[simp] theorem latchConflict_calls (n : Nat) (s : State) : (latchConflict n s).calls = s.calls := by
  simp [latchConflict]
@[simp] theorem takeFirst_calls (l : List Nat) (s : State) : ((takeFirst l s).2).calls = s.calls := by
  unfold takeFirst; split <;> rfl
@[simp] theorem conflictCheck_calls (s : State) : (conflictCheck s).calls = s.calls := by
  unfold conflictCheck
  simp only
  refine (foldl_view State.calls _ (fun s n => conflictPause_calls n s) _ _).trans ?_
  split
  · split <;> rename_i heq <;> have h := congrArg (fun x => x.2.calls) heq <;> simp at h <;> simp [h]
  · rfl
@[simp] theorem boardReact_calls (s : State) : (boardReact s).calls = s.calls := by
  unfold boardReact
  rw [conflictCheck_calls, forShutters_view State.calls _ _ finalIfClear_calls, forShutters_view State.calls _ _ resumeOnDwell_calls]
@[simp] theorem enterGap_calls (s : State) : (enterGap s).calls = s.calls := by
  rfl
@[simp] theorem requestEnd_calls (e : EndRequest) (s : State) : (requestEnd e s).calls = s.calls := by
  rfl
@[simp] theorem writeLog_calls (r : LogRec) (s : State) : (writeLog r s).calls = s.calls := by
  unfold writeLog; split <;> rfl
@[simp] theorem logRun_calls (r : Run) (o : RunOutcome) (s : State) : (logRun r o s).calls = s.calls := by
  simp [logRun]
@[simp] theorem logUnstarted_calls (src : Source) (x : Script) (n : Nat) (o : RunOutcome) (s : State) : (logUnstarted src x n o s).calls = s.calls := by
  simp [logUnstarted]
@[simp] theorem freeSlot_calls (src : Source) (s : State) : (freeSlot src s).calls = s.calls := by
  unfold freeSlot; split <;> rfl
@[simp] theorem completeRun_calls (r : Run) (s : State) : (completeRun r s).calls = s.calls := by
  unfold completeRun
  simp only [enterGap_calls]
  split
  · split
    · split <;> simp
    · simp
  · simp
  · split <;> simp
@[simp] theorem stopRun_calls (r : Run) (e : EndRequest) (last : Bool) (s : State) : (stopRun r e last s).calls = s.calls := by
  unfold stopRun; split
  · simp
  · simp
  · split
    · split <;> simp
    · simp
  · simp only; split <;> simp
@[simp] theorem playFrom_calls (r : Run) (i : Nat) (s : State) : (playFrom r i s).calls = s.calls := by
  unfold playFrom; split <;> simp
@[simp] theorem startRun_calls (src : Source) (x : Script) (n : Nat) (s : State) : (startRun src x n s).calls = s.calls := by
  unfold startRun; simp only; split <;> simp
theorem select_calls {s t : State} (h : select s = some t) : t.calls = s.calls := by
  unfold select at h
  split at h
  · cases h
  · split at h
    · cases h; simp
    · cases h; simp
    · split at h
      · cases h
      · split at h
        · cases h
        · split at h
          · cases h; simp
          · cases h
theorem announceLoop_calls (k : Nat) (s : State) : (announceLoop k s).calls = s.calls := by
  induction k generalizing s with
  | zero => rfl
  | succ k ih =>
    unfold announceLoop; split
    · rw [ih, setPlayer_calls]
    · split
      · rfl
      · next h => rw [ih, select_calls h]
    · rfl
@[simp] theorem announceSettle_calls (s : State) : (announceSettle s).calls = s.calls := by
  exact announceLoop_calls _ s
@[simp] theorem closingPost_calls (x : Script) (s : State) : (closingPost x s).calls = s.calls := by
  unfold closingPost; split
  · rfl
  · split
    · simp
    · simp
    · simp
    · simp only [requestEnd_calls]
      split <;> simp
@[simp] theorem postStep_calls (o : Nat) (s : State) : (postStep o s).calls = s.calls := by
  unfold postStep; split <;> simp

end Sys2Proof.Machine
end

