-- ==== Sys2Proof/Laws/Settle.lean ====
section
/-! SUPPORT. What `settle` does, said once: what it keeps, when it makes no store move, when it leaves the chain alone, and
which shutters it leaves as they are. -/

namespace Sys2Proof.Machine

/-! ### What stands through `settle` -/

theorem steady_store {s t : State} (h : t.steady = s.steady) : t.store = s.store := congrArg Steady.store h
theorem steady_fire {s t : State} (h : t.steady = s.steady) : t.fire = s.fire := congrArg Steady.fire h
theorem steady_intake {s t : State} (h : t.steady = s.steady) : t.intake = s.intake := congrArg Steady.intake h
theorem steady_pending {s t : State} (h : t.steady = s.steady) : t.pending = s.pending := congrArg Steady.pending h
theorem steady_clock {s t : State} (h : t.steady = s.steady) : t.day.clock = s.day.clock := congrArg Steady.clock h
theorem steady_schedule {s t : State} (h : t.steady = s.steady) : t.day.schedule = s.day.schedule :=
  congrArg Steady.schedule h
theorem steady_key {s t : State} (h : t.steady = s.steady) : t.day.key = s.day.key := congrArg Steady.key h
theorem steady_keyHold {s t : State} (h : t.steady = s.steady) : t.day.keyHold = s.day.keyHold :=
  congrArg Steady.keyHold h
theorem steady_inputs {s t : State} (h : t.steady = s.steady) : t.shutters.inputs = s.shutters.inputs :=
  congrArg Steady.inputs h
theorem steady_inputsRead {s t : State} (h : t.steady = s.steady) : t.shutters.inputsRead = s.shutters.inputsRead :=
  congrArg Steady.inputsRead h
theorem steady_failSafe {s t : State} (h : t.steady = s.steady) : t.shutters.failSafe = s.shutters.failSafe :=
  congrArg Steady.failSafe h
theorem steady_p {s t : State} (h : t.steady = s.steady) : t.chain.p = s.chain.p := congrArg Steady.p h
theorem steady_synced {s t : State} (h : t.steady = s.steady) : t.chain.synced = s.chain.synced :=
  congrArg Steady.synced h
theorem steady_lastSlip {s t : State} (h : t.steady = s.steady) : t.chain.lastSlip = s.chain.lastSlip :=
  congrArg Steady.lastSlip h
theorem steady_window {s t : State} (h : t.steady = s.steady) : t.chain.window = s.chain.window :=
  congrArg Steady.window h
theorem steady_nPrev {s t : State} (h : t.steady = s.steady) : t.chain.nPrev = s.chain.nPrev := congrArg Steady.nPrev h
theorem steady_nLast {s t : State} (h : t.steady = s.steady) : t.chain.nLast = s.chain.nLast := congrArg Steady.nLast h
theorem steady_driveOk {s t : State} (h : t.steady = s.steady) : t.chain.driveOk = s.chain.driveOk :=
  congrArg Steady.driveOk h
theorem steady_stopPushes {s t : State} (h : t.steady = s.steady) : t.chain.stopPushes = s.chain.stopPushes :=
  congrArg Steady.stopPushes h
theorem steady_serving {s t : State} (h : t.steady = s.steady) : t.link.serving = s.link.serving :=
  congrArg (fun x => x.link.serving) h
theorem steady_holding {s t : State} (h : t.steady = s.steady) : t.link.holding = s.link.holding :=
  congrArg (fun x => x.link.holding) h
theorem steady_ready {s t : State} (h : t.steady = s.steady) : t.link.ready = s.link.ready :=
  congrArg (fun x => x.link.ready) h
theorem steady_arms {s t : State} (h : t.steady = s.steady) : t.link.arms = s.link.arms := congrArg Steady.arms h
theorem steady_told {s t : State} (h : t.steady = s.steady) : t.link.told = s.link.told := congrArg Steady.told h
theorem steady_bare {s t : State} (h : t.steady = s.steady) : t.link.bare = s.link.bare := congrArg Steady.link h
theorem steady_countingRecords {s t : State} (h : t.steady = s.steady) : t.calls.counting.records = s.calls.counting.records :=
  congrArg Steady.counting h
theorem steady_floorRecords {s t : State} (h : t.steady = s.steady) : t.calls.floor.records = s.calls.floor.records :=
  congrArg Steady.floor h
theorem steady_countingCalls {s t : State} (h : t.steady = s.steady) : t.calls.counting.calls = s.calls.counting.calls :=
  congrArg (fun x => x.counting.calls) h
theorem steady_floorCalls {s t : State} (h : t.steady = s.steady) : t.calls.floor.calls = s.calls.floor.calls :=
  congrArg (fun x => x.floor.calls) h

@[simp] theorem settle_store (s : State) : (settle s).store = s.store := steady_store (settle_steady s)
@[simp] theorem settle_fire (s : State) : (settle s).fire = s.fire := steady_fire (settle_steady s)
@[simp] theorem settle_intake (s : State) : (settle s).intake = s.intake := steady_intake (settle_steady s)
@[simp] theorem settle_pending (s : State) : (settle s).pending = s.pending := steady_pending (settle_steady s)
@[simp] theorem settle_clock (s : State) : (settle s).day.clock = s.day.clock := steady_clock (settle_steady s)
@[simp] theorem settle_schedule (s : State) : (settle s).day.schedule = s.day.schedule :=
  steady_schedule (settle_steady s)
@[simp] theorem settle_key (s : State) : (settle s).day.key = s.day.key := steady_key (settle_steady s)
@[simp] theorem settle_keyHold (s : State) : (settle s).day.keyHold = s.day.keyHold := steady_keyHold (settle_steady s)
@[simp] theorem settle_inputs (s : State) : (settle s).shutters.inputs = s.shutters.inputs :=
  steady_inputs (settle_steady s)
@[simp] theorem settle_inputsRead (s : State) : (settle s).shutters.inputsRead = s.shutters.inputsRead :=
  steady_inputsRead (settle_steady s)
@[simp] theorem settle_failSafe (s : State) : (settle s).shutters.failSafe = s.shutters.failSafe :=
  steady_failSafe (settle_steady s)
@[simp] theorem settle_p (s : State) : (settle s).chain.p = s.chain.p := steady_p (settle_steady s)
@[simp] theorem settle_synced (s : State) : (settle s).chain.synced = s.chain.synced := steady_synced (settle_steady s)
@[simp] theorem settle_lastSlip (s : State) : (settle s).chain.lastSlip = s.chain.lastSlip :=
  steady_lastSlip (settle_steady s)
@[simp] theorem settle_window (s : State) : (settle s).chain.window = s.chain.window := steady_window (settle_steady s)
@[simp] theorem settle_nPrev (s : State) : (settle s).chain.nPrev = s.chain.nPrev := steady_nPrev (settle_steady s)
@[simp] theorem settle_nLast (s : State) : (settle s).chain.nLast = s.chain.nLast := steady_nLast (settle_steady s)
@[simp] theorem settle_driveOk (s : State) : (settle s).chain.driveOk = s.chain.driveOk :=
  steady_driveOk (settle_steady s)
@[simp] theorem settle_stopPushes (s : State) : (settle s).chain.stopPushes = s.chain.stopPushes :=
  steady_stopPushes (settle_steady s)
@[simp] theorem settle_serving (s : State) : (settle s).link.serving = s.link.serving :=
  steady_serving (settle_steady s)
@[simp] theorem settle_holding (s : State) : (settle s).link.holding = s.link.holding :=
  steady_holding (settle_steady s)
@[simp] theorem settle_ready (s : State) : (settle s).link.ready = s.link.ready := steady_ready (settle_steady s)
@[simp] theorem settle_arms (s : State) : (settle s).link.arms = s.link.arms := steady_arms (settle_steady s)
@[simp] theorem settle_told (s : State) : (settle s).link.told = s.link.told := steady_told (settle_steady s)
@[simp] theorem settle_bare (s : State) : (settle s).link.bare = s.link.bare := steady_bare (settle_steady s)
@[simp] theorem settle_countingRecords (s : State) : (settle s).calls.counting.records = s.calls.counting.records :=
  steady_countingRecords (settle_steady s)
@[simp] theorem settle_floorRecords (s : State) : (settle s).calls.floor.records = s.calls.floor.records :=
  steady_floorRecords (settle_steady s)
@[simp] theorem settle_countingCalls (s : State) : (settle s).calls.counting.calls = s.calls.counting.calls :=
  steady_countingCalls (settle_steady s)
@[simp] theorem settle_floorCalls (s : State) : (settle s).calls.floor.calls = s.calls.floor.calls :=
  steady_floorCalls (settle_steady s)

/-! ### When the store makes no move -/

/-- A store in STANDBY, TRADING or CLOSING makes no move by itself. -/
theorem dayStep_of_rests {s : State} (h : s.storeRests) : dayStep s = none := by
  rcases h with h | h | h <;> simp [dayStep, h]

theorem settle_of_rests {s : State} (h : s.storeRests) : settle s = motion s := by
  have hm : (motion s).storeRests := by simpa [State.storeRests] using h
  unfold settle dayLoop
  rw [dayStep_of_rests hm]

/-- The store never enters UNCONFIGURED by itself and never leaves it by itself. -/
theorem dayStep_unconfigured {s t : State} (h : dayStep s = some t) :
    s.unconfigured = false ∧ t.unconfigured = false := by
  have trading (c : StoreCause) (u : State) : (enterTrading c u).unconfigured = false := by
    unfold enterTrading closeWindowTest
    split
    · split
      · unfold enterClosing
        simp only
        split <;> (try split) <;> simp [State.unconfigured, enterClearing, changeStore]
      · simp [State.unconfigured, changeStore]
    · simp [State.unconfigured, changeStore]
  have waking {t : State} (h : wakingStep s = some t) : t.unconfigured = false := by
    unfold wakingStep at h
    split at h
    · cases h; simp [State.unconfigured, enterOpening, changeStore]
    · split at h
      · cases h; simp [State.unconfigured, enterOpening, changeStore]
      · split at h
        · split at h
          · cases h; simp [State.unconfigured, changeStore]
          · split at h
            · cases h; simp [State.unconfigured, enterOpening, changeStore]
            · cases h
        · cases h; simp [State.unconfigured, changeStore]
  unfold dayStep at h
  split at h
  · split at h <;> cases h; simp_all [State.unconfigured, enterShutting, changeStore]
  · split at h <;> cases h; simp_all [State.unconfigured, changeStore]
  · split at h <;> cases h; simp_all [State.unconfigured, changeStore]
  · exact ⟨by simp_all [State.unconfigured], waking h⟩
  · split at h <;> cases h; exact ⟨by simp_all [State.unconfigured], trading _ _⟩
  all_goals cases h

theorem dayLoop_unconfigured (k : Nat) (s : State) : (dayLoop k s).unconfigured = s.unconfigured := by
  induction k generalizing s with
  | zero => rfl
  | succ k ih =>
    unfold dayLoop; split
    · rfl
    · next h =>
      have := dayStep_unconfigured h
      rw [ih, this.1, State.unconfigured, motion_day]
      exact this.2

@[simp] theorem settle_unconfigured (s : State) : (settle s).unconfigured = s.unconfigured := by
  rw [settle, dayLoop_unconfigured, State.unconfigured, motion_day]; rfl

/-! ### When the chain is left alone -/

/-- With every doorway free no conflict exists (R49, R50). -/
theorem conflicts_of_free {s : State} (h : s.doorwaysFree) : s.conflicts = [] := by
  simp only [State.conflicts, List.filter_eq_nil_iff, List.mem_range]
  intro n hn
  unfold State.conflictAt
  split
  · simp
  · split
    · simp
    · rcases h n hn with h | h <;> simp [State.inDoorway, h]

theorem inputs_steady {s t : State} (h : t.steady = s.steady) (n : Nat) : t.inputs n = s.inputs n := by
  simp [State.inputs, steady_inputs h]

theorem free_steady {s t : State} (h : t.steady = s.steady) (hf : s.doorwaysFree) : t.doorwaysFree := by
  intro n hn
  rw [inputs_steady h]
  exact hf n hn

theorem conflictCheck_of_free {s : State} (h : s.doorwaysFree) :
    conflictCheck s = { s with board := { s.board with inConflict := [] } } := by
  have hc := conflicts_of_free h
  simp only [conflictCheck, List.filter_nil, takeFirst, List.foldl_nil, ite_self, hc]

theorem boardReact_chain_of_free {s : State} (h : s.doorwaysFree) : (boardReact s).chain = s.chain := by
  have hv := (forShutters_view State.chain (fun _ => true) _ finalIfClear_chain
    (forShutters (fun _ => true) resumeOnDwell s)).trans
      (forShutters_view State.chain (fun _ => true) _ resumeOnDwell_chain s)
  have hs := (forShutters_view State.steady (fun _ => true) _ finalIfClear_steady
    (forShutters (fun _ => true) resumeOnDwell s)).trans
      (forShutters_view State.steady (fun _ => true) _ resumeOnDwell_steady s)
  unfold boardReact
  generalize forShutters (fun _ => true) finalIfClear (forShutters (fun _ => true) resumeOnDwell s) = u at hv hs ⊢
  rw [conflictCheck_of_free (free_steady hs h)]
  exact hv

/-- With every doorway free, what follows a change reaches the chain through its own tests only. -/
theorem motion_chain_of_free {s : State} (h : s.doorwaysFree) : (motion s).chain = (chainSettle s).chain := by
  simp only [motion, hushRelease_chain, announceSettle_chain, arbiter_chain]
  exact boardReact_chain_of_free (free_steady (chainSettle_steady s) h)

/-- In a resting store with every doorway free, the chain moves on by its own tests only. -/
theorem settle_chain_of_free {s : State} (hr : s.storeRests) (h : s.doorwaysFree) :
    (settle s).chain = (chainSettle s).chain := by
  rw [settle_of_rests hr, motion_chain_of_free h]

/-- What `restTest` does to the chain alone (R35). -/
def Chain.rested (c : Chain) : Chain :=
  match c.state with
  | .stopping intent => if c.moving then c else { c with state := .stopped, parked := intent = .park }
  | _ => c

theorem restTest_chain (s : State) : (restTest s).chain = s.chain.rested := by
  unfold restTest Chain.rested; split <;> (try split) <;> simp_all

theorem rested_rested (c : Chain) : c.rested.rested = c.rested := by
  cases h : c.state <;> cases hm : c.moving <;> simp [Chain.rested, h, hm]

theorem rested_runs (c : Chain) : c.rested.state.runs = true → c.state.runs = true := by
  unfold Chain.rested; split <;> (try split) <;> simp_all [ChainState.runs]

theorem rested_runs_false {c : Chain} (h : c.state.runs = false) : c.rested.state.runs = false := by
  unfold Chain.rested; split <;> (try split) <;> simp_all [ChainState.runs]

theorem parkTest_of_still {s : State} (h : s.chain.state.runs = false) : parkTest s = s := by
  unfold parkTest; split
  · next hp _ => rw [hp] at h; simp [ChainState.runs] at h
  · rfl

theorem haltIfRunning_of_still (cause : HaltCause) {s : State} (h : s.chain.state.runs = false) :
    haltIfRunning cause s = s := by simp [haltIfRunning, h]

theorem latchConflict_chain_of_still (n : Nat) {s : State} (h : s.chain.state.runs = false) :
    (latchConflict n s).chain = s.chain := by
  simp only [latchConflict, raise_chain]
  rw [haltIfRunning_of_still]
  exact h

theorem conflictCheck_chain_of_still {s : State} (h : s.chain.state.runs = false) :
    (conflictCheck s).chain = s.chain := by
  unfold conflictCheck
  simp only
  refine (foldl_view State.chain _ (fun s n => conflictPause_chain n s) _ _).trans ?_
  split
  · split <;> rename_i heq <;> have hc := congrArg (fun x => x.2.chain) heq <;> simp at hc
    · rw [latchConflict_chain_of_still _ (by rw [← hc]; exact h), hc]
    · exact hc.symm
  · rfl

theorem boardReact_chain_of_still {s : State} (h : s.chain.state.runs = false) : (boardReact s).chain = s.chain := by
  have hv := (forShutters_view State.chain (fun _ => true) _ finalIfClear_chain
    (forShutters (fun _ => true) resumeOnDwell s)).trans
      (forShutters_view State.chain (fun _ => true) _ resumeOnDwell_chain s)
  unfold boardReact
  rw [conflictCheck_chain_of_still (by rw [hv]; exact h), hv]

theorem motion_chain_of_still {s : State} (h : s.chain.state.runs = false) :
    (motion s).chain = s.chain.rested := by
  have hc : (chainSettle s).chain = s.chain.rested := by
    rw [chainSettle, parkTest_of_still h, restTest_chain]
  simp only [motion, hushRelease_chain, announceSettle_chain, arbiter_chain]
  rw [boardReact_chain_of_still (by rw [hc]; exact rested_runs_false h), hc]

theorem clearOutOrder_of_still {s : State} (h : s.chain.state.runs = false) : clearOutOrder s = s := by
  unfold clearOutOrder; split <;> simp_all [ChainState.runs]

theorem stopChain_of_still {s : State} (h : s.chain.state.runs = false) : stopChain s = s := by
  simp [stopChain, h]

@[simp] theorem enterOpening_chain (cause : StoreCause) (s : State) : (enterOpening cause s).chain = s.chain := by
  simp [enterOpening]

theorem enterClearing_chain_of_still (cause : StoreCause) {s : State} (h : s.chain.state.runs = false) :
    (enterClearing cause s).chain = s.chain := by
  unfold enterClearing
  rw [clearOutOrder_of_still (by exact h)]
  rfl

theorem enterShutting_chain_of_still (cause : StoreCause) (forced : Bool) {s : State}
    (h : s.chain.state.runs = false) : (enterShutting cause forced s).chain = s.chain := by
  unfold enterShutting
  rw [stopChain_of_still (by simpa using h)]
  simp

theorem enterTrading_chain_of_still (cause : StoreCause) {s : State} (h : s.chain.state.runs = false) :
    (enterTrading cause s).chain = s.chain := by
  unfold enterTrading closeWindowTest
  split
  · split
    · unfold enterClosing
      simp only
      split <;> split <;> first
        | (rw [enterClearing_chain_of_still _ (by simpa using h)]; simp)
        | simp
    · rfl
  · rfl

theorem dayStep_chain_of_still {s t : State} (h : s.chain.state.runs = false) (ht : dayStep s = some t) :
    t.chain = s.chain := by
  unfold dayStep at ht
  split at ht
  · split at ht <;> cases ht; exact enterShutting_chain_of_still _ _ h
  · split at ht <;> cases ht; rfl
  · split at ht <;> cases ht; rfl
  · unfold wakingStep at ht
    split at ht
    · cases ht; simp
    · split at ht
      · cases ht; simp
      · split at ht
        · split at ht
          · cases ht; rfl
          · split at ht
            · cases ht; simp
            · cases ht
        · cases ht; rfl
  · split at ht <;> cases ht; exact enterTrading_chain_of_still _ h
  all_goals cases ht

theorem dayLoop_chain_of_still (k : Nat) {s : State} (h : s.chain.state.runs = false)
    (hr : s.chain.rested = s.chain) : (dayLoop k s).chain = s.chain := by
  induction k generalizing s with
  | zero => rfl
  | succ k ih =>
    unfold dayLoop; split
    · rfl
    · next t ht =>
      have hc := dayStep_chain_of_still h ht
      have hm : (motion t).chain = s.chain := by
        rw [motion_chain_of_still (by rw [hc]; exact h), hc, hr]
      rw [ih (by rw [hm]; exact h) (by rw [hm]; exact hr), hm]

/-- RUN is never turned on by what follows a change, and a chain with RUN off only comes to rest (R35). -/
theorem settle_chain_of_still {s : State} (h : s.chain.state.runs = false) : (settle s).chain = s.chain.rested := by
  have hm := motion_chain_of_still h
  rw [settle, dayLoop_chain_of_still 12 (by rw [hm]; exact rested_runs_false h) (by rw [hm, rested_rested]), hm]

theorem settle_runs_false {s : State} (h : s.chain.state.runs = false) : (settle s).chain.state.runs = false := by
  rw [settle_chain_of_still h]; exact rested_runs_false h

end Sys2Proof.Machine
end

