-- ==== Sys2Proof/Laws/Units.lean ====
section
/-! SUPPORT. What follows a change does to one shutter: each operation touches only the shutter it is about, and a shutter
that waits for nothing is left as it is. -/

namespace Sys2Proof.Machine

/-! ### Reading a shutter after an operation -/

theorem unit_eq {s t : State} (h : t.shutters.units = s.shutters.units) (n : Nat) : t.unit n = s.unit n := by
  simp [State.unit, h]

theorem unit_lt {s : State} {n : Nat} {sh : Shutter} (h : s.unit n = some sh) : n < s.shutters.units.length := by
  unfold State.unit at h
  by_contra hn
  rw [List.getD_eq_default _ _ (by omega)] at h
  cases h

theorem putUnit_units (n : Nat) (sh : Shutter) (s : State) :
    (putUnit n sh s).shutters.units = s.shutters.units.set n (some sh) := by
  unfold putUnit; simp only; split <;> rfl

@[simp] theorem putUnit_raiseQueue (n : Nat) (sh : Shutter) (s : State) :
    (putUnit n sh s).shutters.raiseQueue = s.shutters.raiseQueue := by
  unfold putUnit; simp only; split <;> rfl

theorem putUnit_unit_ne {n m : Nat} (h : m ≠ n) (sh : Shutter) (s : State) : (putUnit n sh s).unit m = s.unit m := by
  simp [State.unit, putUnit_units, List.getD, List.getElem?_set_ne h.symm]

theorem putUnit_unit {n : Nat} (sh : Shutter) {s : State} (h : n < s.shutters.units.length) :
    (putUnit n sh s).unit n = some sh := by
  simp [State.unit, putUnit_units, List.getD, h]

theorem record_steady {s t : State} (h : t.steady = s.steady) (n : Nat) : t.record n = s.record n := by
  simp [State.record, steady_store h]

theorem lowerOrder_unit_ne {n m : Nat} (h : m ≠ n) (s : State) : (lowerOrder n s).unit m = s.unit m := by
  unfold lowerOrder; split
  · split
    · exact putUnit_unit_ne h _ _
    · exact putUnit_unit_ne h _ _
    · rw [putUnit_unit_ne h]; rfl
    · rfl
  · rfl

theorem acceptRaise_unit_ne {n m : Nat} (h : m ≠ n) (sh : Shutter) (s : State) :
    (acceptRaise n sh s).unit m = s.unit m := by
  have : (acceptRaise n sh s).unit m = (putUnit n { sh with state := .raiseWait, obstructions := 0 } s).unit m := rfl
  rw [this, putUnit_unit_ne h]

theorem raiseOrder_unit_ne (o : Bool) {n m : Nat} (h : m ≠ n) (s : State) :
    (raiseOrder o n s).2.unit m = s.unit m := by
  unfold raiseOrder; split
  · rfl
  · split; · rfl
    split; · rfl
    split; · rfl
    split
    · rfl
    · split <;> first | exact acceptRaise_unit_ne h _ _ | rfl

theorem startRaise_unit_ne {n m : Nat} (h : m ≠ n) (s : State) : (startRaise n s).unit m = s.unit m := by
  unfold startRaise; split
  · split
    · split <;> exact putUnit_unit_ne h _ _
    · rfl
  · rfl

@[simp] theorem startRaise_raiseQueue (n : Nat) (s : State) :
    (startRaise n s).shutters.raiseQueue = s.shutters.raiseQueue := by
  unfold startRaise; split
  · split
    · split <;> simp
    · rfl
  · rfl

theorem resumeOnDwell_unit_ne {n m : Nat} (h : m ≠ n) (s : State) : (resumeOnDwell n s).unit m = s.unit m := by
  unfold resumeOnDwell; split
  · split
    · split
      · exact putUnit_unit_ne h _ _
      · rfl
    · rfl
  · rfl

@[simp] theorem resumeOnDwell_raiseQueue (n : Nat) (s : State) :
    (resumeOnDwell n s).shutters.raiseQueue = s.shutters.raiseQueue := by
  unfold resumeOnDwell; split
  · split
    · split <;> simp
    · rfl
  · rfl

theorem finalIfClear_unit_ne {n m : Nat} (h : m ≠ n) (s : State) : (finalIfClear n s).unit m = s.unit m := by
  unfold finalIfClear; split
  · split
    · split
      · exact putUnit_unit_ne h _ _
      · rfl
    · rfl
  · rfl

@[simp] theorem finalIfClear_raiseQueue (n : Nat) (s : State) :
    (finalIfClear n s).shutters.raiseQueue = s.shutters.raiseQueue := by
  unfold finalIfClear; split
  · split
    · split <;> simp
    · rfl
  · rfl

theorem conflictPause_unit_ne {n m : Nat} (h : m ≠ n) (s : State) : (conflictPause n s).unit m = s.unit m := by
  unfold conflictPause; split
  · exact putUnit_unit_ne h _ _
  · rfl

@[simp] theorem conflictPause_raiseQueue (n : Nat) (s : State) :
    (conflictPause n s).shutters.raiseQueue = s.shutters.raiseQueue := by
  unfold conflictPause; split <;> simp

/-! ### A shutter that is left as it is -/

/-- A shutter waits for nothing that comes by itself: it is neither HELD nor paused for conflict. -/
def ShutterState.waitsForNothing : ShutterState → Bool
  | .held _ => false
  | .paused .conflict _ _ => false
  | _ => true

/-- Shutter n has running state u and is not in the raise queue, and the steady part of the state is x. -/
def State.holdsUnit (x : Steady) (n : Nat) (u : Option Shutter) (s : State) : Prop :=
  s.unit n = u ∧ n ∉ s.shutters.raiseQueue ∧ s.steady = x

/-- What every order keeps, all orders keep. -/
theorem forShutters_keeps_of (P : State → Prop) (chosen : Nat → Bool) {order : Nat → State → State}
    (h : ∀ n s, chosen n = true → P s → P (order n s)) {s : State} (hs : P s) : P (forShutters chosen order s) := by
  unfold forShutters
  generalize List.range 32 = l
  induction l generalizing s with
  | nil => exact hs
  | cons n l ih =>
    rw [List.foldl_cons]
    apply ih
    split
    · next hc => exact h n s hc hs
    · exact hs

theorem forShutters_keeps (P : State → Prop) (chosen : Nat → Bool) {order : Nat → State → State}
    (h : ∀ n s, P s → P (order n s)) {s : State} (hs : P s) : P (forShutters chosen order s) :=
  forShutters_keeps_of P chosen (fun n s _ => h n s) hs

variable {x : Steady} {n : Nat} {u : Option Shutter} {s : State}

theorem resumeOnDwell_holdsUnit (hu : ∀ sh, u = some sh → sh.state.waitsForNothing = true) (m : Nat)
    (h : s.holdsUnit x n u) : (resumeOnDwell m s).holdsUnit x n u := by
  refine ⟨?_, by simpa using h.2.1, by rw [resumeOnDwell_steady]; exact h.2.2⟩
  by_cases hm : n = m
  · subst hm
    unfold resumeOnDwell
    split
    · next sh hsh =>
      have := hu sh (h.1.symm.trans hsh)
      split
      · next he => rw [he] at this; simp [ShutterState.waitsForNothing] at this
      · exact h.1
    · exact h.1
  · rw [resumeOnDwell_unit_ne hm]; exact h.1

theorem finalIfClear_holdsUnit (hu : ∀ sh, u = some sh → sh.state.waitsForNothing = true) (m : Nat)
    (h : s.holdsUnit x n u) : (finalIfClear m s).holdsUnit x n u := by
  refine ⟨?_, by simpa using h.2.1, by rw [finalIfClear_steady]; exact h.2.2⟩
  by_cases hm : n = m
  · subst hm
    unfold finalIfClear
    split
    · next r sh hr hsh =>
      have := hu sh (h.1.symm.trans hsh)
      split
      · next he => rw [he] at this; simp [ShutterState.waitsForNothing] at this
      · exact h.1
    · exact h.1
  · rw [finalIfClear_unit_ne hm]; exact h.1

theorem outOfDoorway_steady {s t : State} (h : t.steady = s.steady) (ho : s.outOfDoorway n) : t.outOfDoorway n := by
  unfold State.outOfDoorway at *
  rw [record_steady h, inputs_steady h]
  exact ho

theorem conflictAt_of_outOfDoorway (h : s.outOfDoorway n) : s.conflictAt n = false := by
  unfold State.conflictAt
  split
  · rfl
  · next r hr =>
    split
    · rfl
    · next j hj =>
      rcases h with h | h | h
      · rw [h r hr] at hj; cases hj
      · simp [State.inDoorway, h]
      · simp [State.inDoorway, h]

theorem foldl_conflictPause_holdsUnit (l : List Nat) (hn : n ∉ l) (h : s.holdsUnit x n u) :
    (l.foldl (fun s n => conflictPause n s) s).holdsUnit x n u := by
  induction l generalizing s with
  | nil => exact h
  | cons m l ih =>
    rw [List.foldl_cons]
    refine ih (fun hm => hn (List.mem_cons_of_mem _ hm)) ⟨?_, by simpa using h.2.1, ?_⟩
    · rw [conflictPause_unit_ne (by rintro rfl; exact hn List.mem_cons_self)]; exact h.1
    · rw [conflictPause_steady]; exact h.2.2

theorem conflictCheck_holdsUnit (ho : s.conflictAt n = false) (h : s.holdsUnit x n u) :
    (conflictCheck s).holdsUnit x n u := by
  have hl : ∀ {m : Nat} {s : State}, s.holdsUnit x n u → (latchConflict m s).holdsUnit x n u := by
    intro m s h
    refine ⟨(unit_eq (by simp) n).trans h.1, by simpa using h.2.1, by rw [latchConflict_steady]; exact h.2.2⟩
  unfold conflictCheck
  simp only
  generalize hf : s.conflicts.filter (fun n => !s.board.inConflict.contains n) = fresh
  have hn : n ∉ fresh := by
    rw [← hf]
    simp [State.conflicts, ho]
  have key : ∀ t : State, t.holdsUnit x n u →
      State.holdsUnit x n u
        { fresh.foldl (fun s n => conflictPause n s) t with
          board := { (fresh.foldl (fun s n => conflictPause n s) t).board with
            inConflict := (fresh.foldl (fun s n => conflictPause n s) t).conflicts } } :=
    fun t ht => foldl_conflictPause_holdsUnit fresh hn ht
  apply key
  split
  · split <;> rename_i heq <;> have hs := congrArg (fun x => x.2.shutters) heq <;>
      have hst := congrArg (fun x => x.2.steady) heq <;> simp only [takeFirst_shutters, takeFirst_steady] at hs hst
    · exact hl ⟨(unit_eq (by rw [← hs]) n).trans h.1, by rw [← hs]; exact h.2.1, hst.symm.trans h.2.2⟩
    · exact ⟨(unit_eq (by rw [← hs]) n).trans h.1, by rw [← hs]; exact h.2.1, hst.symm.trans h.2.2⟩
  · exact h

theorem conflictAt_congr {s t : State} (hs : t.steady = s.steady) (hu : t.unconfigured = s.unconfigured)
    (hn : t.unit n = s.unit n) (hc : t.chain = s.chain) : t.conflictAt n = s.conflictAt n := by
  have hop : ∀ j, t.openingStatus j = s.openingStatus j := by
    intro j
    simp only [State.openingStatus, State.opening, State.counting, hu, steady_store hs, hc]
  simp only [State.conflictAt, record_steady hs, hop, State.inDoorway, steady_inputsRead hs, inputs_steady hs, hn, hc]

theorem boardReact_holdsUnit (hu : ∀ sh, u = some sh → sh.state.waitsForNothing = true)
    (ho : s.conflictAt n = false) (h : s.holdsUnit x n u) : (boardReact s).holdsUnit x n u := by
  unfold boardReact
  have h1 : (forShutters (fun _ => true) finalIfClear (forShutters (fun _ => true) resumeOnDwell s)).holdsUnit x n u :=
    forShutters_keeps (State.holdsUnit x n u) _ (fun m s hs => finalIfClear_holdsUnit hu m hs)
      (forShutters_keeps (State.holdsUnit x n u) _ (fun m s hs => resumeOnDwell_holdsUnit hu m hs) h)
  have hc := (forShutters_view State.chain (fun _ => true) _ finalIfClear_chain
    (forShutters (fun _ => true) resumeOnDwell s)).trans
      (forShutters_view State.chain (fun _ => true) _ resumeOnDwell_chain s)
  have hd := (forShutters_view State.day (fun _ => true) _ finalIfClear_day
    (forShutters (fun _ => true) resumeOnDwell s)).trans
      (forShutters_view State.day (fun _ => true) _ resumeOnDwell_day s)
  generalize forShutters (fun _ => true) finalIfClear (forShutters (fun _ => true) resumeOnDwell s) = t at h1 hc hd ⊢
  refine conflictCheck_holdsUnit ?_ h1
  rw [conflictAt_congr (h1.2.2.trans h.2.2.symm) (by simp [State.unconfigured, hd]) (h1.1.trans h.1.symm) hc]
  exact ho

theorem arbiter_holdsUnit (h : s.holdsUnit x n u) : (arbiter s).holdsUnit x n u := by
  unfold arbiter
  generalize s.shutters.raiseQueue.length = k
  induction k generalizing s with
  | zero => exact h
  | succ k ih =>
    unfold arbiterLoop
    split
    · exact h
    · next m rest hq =>
      have hn := h.2.1
      rw [hq] at hn
      split
      · refine ih ⟨?_, ?_, ?_⟩
        · rw [startRaise_unit_ne (by rintro rfl; exact hn List.mem_cons_self)]
          exact (unit_eq rfl n).trans h.1
        · simp only [startRaise_raiseQueue]
          exact fun hm => hn (List.mem_cons_of_mem _ hm)
        · rw [startRaise_steady]; exact h.2.2
      · exact h

/-- What follows a change leaves a shutter as it is that waits for nothing, stands out of its doorway, and is not in the
raise queue. -/
theorem motion_holdsUnit (hu : ∀ sh, u = some sh → sh.state.waitsForNothing = true) (ho : s.outOfDoorway n)
    (h : s.holdsUnit x n u) : (motion s).holdsUnit x n u := by
  have h1 : (chainSettle s).holdsUnit x n u :=
    ⟨(unit_eq (by simp) n).trans h.1, by simpa using h.2.1, by rw [chainSettle_steady]; exact h.2.2⟩
  have h2 := arbiter_holdsUnit (boardReact_holdsUnit hu
    (conflictAt_of_outOfDoorway (outOfDoorway_steady (chainSettle_steady s) ho)) h1)
  exact ⟨(unit_eq (by simp [motion]) n).trans h2.1, by simpa [motion] using h2.2.1,
    by rw [motion_steady]; exact h.2.2⟩

/-- The same in a resting store, for the whole of what follows a change. -/
theorem settle_unit_of_rests {sh : Shutter} (hr : s.storeRests) (hu : sh.state.waitsForNothing = true)
    (ho : s.outOfDoorway n) (hq : n ∉ s.shutters.raiseQueue) (h : s.unit n = some sh) :
    (settle s).unit n = some sh := by
  rw [settle_of_rests hr]
  exact (motion_holdsUnit (x := s.steady) (by intro sh' he; cases he; exact hu) ho ⟨h, hq, rfl⟩).1

/-! ### A shutter that no order of the store reaches -/

/-- A descent, a pause for obstruction or a fault: no lower or raise order of the store changes it (R59, R170). -/
def ShutterState.deafToStore : ShutterState → Bool
  | .dropping _ => true
  | .final _ => true
  | .paused .obstruction _ _ => true
  | .fault .. => true
  | _ => false

theorem deafToStore_waits {st : ShutterState} (h : st.deafToStore = true) : st.waitsForNothing = true := by
  unfold ShutterState.deafToStore at h
  split at h <;> first | rfl | cases h

theorem lowerOrder_raiseQueue_mem {m k : Nat} (h : k ∈ (lowerOrder m s).shutters.raiseQueue) :
    k ∈ s.shutters.raiseQueue := by
  unfold lowerOrder at h
  split at h
  · split at h
    · simpa using h
    · simpa using h
    · simp only [putUnit_raiseQueue, leaveQueue] at h
      exact (List.mem_filter.mp h).1
    · exact h
  · exact h

theorem lowerOrder_holdsUnit (hu : ∀ sh, u = some sh → sh.state.deafToStore = true) (m : Nat)
    (h : s.holdsUnit x n u) : (lowerOrder m s).holdsUnit x n u := by
  refine ⟨?_, fun hm => h.2.1 (lowerOrder_raiseQueue_mem hm), by rw [lowerOrder_steady]; exact h.2.2⟩
  by_cases hm : n = m
  · subst hm
    unfold lowerOrder
    split
    · next r sh hr hsh =>
      have := hu sh (h.1.symm.trans hsh)
      split
      · next he => rw [he] at this; cases this
      · next he => rw [he] at this; cases this
      · next he => rw [he] at this; cases this
      · exact h.1
    · exact h.1
  · rw [lowerOrder_unit_ne hm]; exact h.1

theorem nightCloseOrder_holdsUnit (hu : ∀ sh, u = some sh → sh.state.deafToStore = true)
    (h : s.holdsUnit x n u) : (nightCloseOrder s).holdsUnit x n u :=
  forShutters_keeps _ _ (fun m _ hs => lowerOrder_holdsUnit hu m hs) h

theorem raiseOrder_holdsUnit_ne (o : Bool) {m : Nat} (hm : n ≠ m) (h : s.holdsUnit x n u) :
    (raiseOrder o m s).2.holdsUnit x n u := by
  refine ⟨by rw [raiseOrder_unit_ne o hm]; exact h.1, ?_, by rw [raiseOrder_steady]; exact h.2.2⟩
  unfold raiseOrder
  split
  · exact h.2.1
  · split; · exact h.2.1
    split; · exact h.2.1
    split; · exact h.2.1
    split
    · exact h.2.1
    · split <;> first | exact h.2.1 | skip
      all_goals
        simp only [acceptRaise, putUnit_raiseQueue, List.mem_append, List.mem_singleton, not_or]
        exact ⟨h.2.1, hm⟩

theorem morningRaise_holdsUnit (hu : ∀ sh, u = some sh → sh.state.deafToStore = true)
    (h : s.holdsUnit x n u) : (morningRaise s).holdsUnit x n u := by
  have hn : (s.nightClose n && ((s.unit n).map fun sh => decide (sh.state = .closed)).getD false) = false := by
    rw [h.1]
    cases u with
    | none => simp
    | some sh =>
      have := hu sh rfl
      cases hst : sh.state <;> simp_all [ShutterState.deafToStore]
  refine forShutters_keeps_of _ _ (fun m _ hm hs => raiseOrder_holdsUnit_ne false ?_ hs) h
  rintro rfl
  rw [hn] at hm
  cases hm

theorem day_holdsUnit {t : State} (h : s.holdsUnit x n u) (hs : t.shutters = s.shutters)
    (hx : t.steady = s.steady) : t.holdsUnit x n u :=
  ⟨(unit_eq (by rw [hs]) n).trans h.1, by rw [hs]; exact h.2.1, hx.trans h.2.2⟩

@[simp] theorem enterClearing_shutters (cause : StoreCause) (s : State) :
    (enterClearing cause s).shutters = s.shutters := by
  simp only [enterClearing, clearOutOrder_shutters]; rfl

theorem enterShutting_holdsUnit (cause : StoreCause) (forced : Bool)
    (hu : ∀ sh, u = some sh → sh.state.deafToStore = true) (h : s.holdsUnit x n u) :
    (enterShutting cause forced s).holdsUnit x n u := by
  unfold enterShutting
  refine day_holdsUnit (nightCloseOrder_holdsUnit hu ?_) (stopChain_shutters _) (stopChain_steady _)
  exact day_holdsUnit h rfl (by rw [changeStore_steady]; rfl)

theorem enterOpening_holdsUnit (cause : StoreCause) (hu : ∀ sh, u = some sh → sh.state.deafToStore = true)
    (h : s.holdsUnit x n u) : (enterOpening cause s).holdsUnit x n u := by
  unfold enterOpening
  refine morningRaise_holdsUnit hu ?_
  exact day_holdsUnit h rfl (by rw [changeStore_steady, clearWakeFlags_steady]; rfl)

@[simp] theorem enterClosing_shutters (k c : Nat) (s : State) : (enterClosing k c s).shutters = s.shutters := by
  unfold enterClosing
  simp only
  split <;> split <;> simp

@[simp] theorem closeWindowTest_shutters (s : State) : (closeWindowTest s).shutters = s.shutters := by
  unfold closeWindowTest; split
  · split <;> simp
  · rfl

@[simp] theorem enterTrading_shutters (cause : StoreCause) (s : State) :
    (enterTrading cause s).shutters = s.shutters := by
  simp [enterTrading]

theorem dayStep_holdsUnit {t : State} (hu : ∀ sh, u = some sh → sh.state.deafToStore = true)
    (h : s.holdsUnit x n u) (ht : dayStep s = some t) : t.holdsUnit x n u := by
  have hx := dayStep_steady ht
  unfold dayStep at ht
  split at ht
  · split at ht <;> cases ht; exact enterShutting_holdsUnit _ _ hu h
  · split at ht <;> cases ht; exact day_holdsUnit h rfl hx
  · split at ht <;> cases ht; exact day_holdsUnit h rfl hx
  · unfold wakingStep at ht
    split at ht
    · cases ht; exact enterOpening_holdsUnit _ hu h
    · split at ht
      · cases ht; exact enterOpening_holdsUnit _ hu h
      · split at ht
        · split at ht
          · cases ht; exact day_holdsUnit h rfl hx
          · split at ht
            · cases ht; exact enterOpening_holdsUnit _ hu h
            · cases ht
        · cases ht; exact day_holdsUnit h rfl hx
  · split at ht <;> cases ht; exact day_holdsUnit h (by simp) hx
  all_goals cases ht

theorem dayLoop_holdsUnit (k : Nat) (hu : ∀ sh, u = some sh → sh.state.deafToStore = true) (ho : s.outOfDoorway n)
    (h : s.holdsUnit x n u) : (dayLoop k s).holdsUnit x n u := by
  induction k generalizing s with
  | zero => exact h
  | succ k ih =>
    unfold dayLoop; split
    · exact h
    · next t ht =>
      have h1 := dayStep_holdsUnit hu h ht
      have ho1 := outOfDoorway_steady (dayStep_steady ht) ho
      exact ih (outOfDoorway_steady (motion_steady t) ho1)
        (motion_holdsUnit (fun sh e => deafToStore_waits (hu sh e)) ho1 h1)

/-- A shutter in a descent, paused for obstruction or in FAULT, out of its doorway and not in the raise queue, is left as
it is by everything that follows a change, in every store state. -/
theorem settle_unit_of_deaf {sh : Shutter} (hu : sh.state.deafToStore = true) (ho : s.outOfDoorway n)
    (hq : n ∉ s.shutters.raiseQueue) (h : s.unit n = some sh) : (settle s).unit n = some sh := by
  have hu' : ∀ sh', some sh = some sh' → sh'.state.deafToStore = true := by intro sh' e; cases e; exact hu
  have h1 : (motion s).holdsUnit s.steady n (some sh) :=
    motion_holdsUnit (fun sh' e => deafToStore_waits (hu' sh' e)) ho ⟨h, hq, rfl⟩
  exact (dayLoop_holdsUnit 12 hu' (outOfDoorway_steady (motion_steady s) ho) h1).1

end Sys2Proof.Machine
end

