-- ==== Sys2Proof/Laws/Conflicts.lean ====
section
/-! SUPPORT. The boarding conflict through what follows a change: once it has settled, the conflict latch is set while a
conflict exists (R50 to R52). -/

namespace Sys2Proof.Machine

variable {s t : State}

/-- Where a conflict exists is read from the tables, the chain, the store state, the inputs and the brakes (R49, R50). -/
theorem conflicts_congr (hs : t.steady = s.steady) (hu : t.unconfigured = s.unconfigured) (hc : t.chain = s.chain)
    (hb : ∀ n, brakedAtClearLine (t.unit n) = brakedAtClearLine (s.unit n)) : t.conflicts = s.conflicts := by
  have hop : ∀ j, t.openingStatus j = s.openingStatus j := by
    intro j
    simp only [State.openingStatus, State.opening, State.counting, hu, steady_store hs, hc]
  have h : t.conflictAt = s.conflictAt := by
    funext n
    simp only [State.conflictAt, record_steady hs, hop, State.inDoorway, steady_inputsRead hs, inputs_steady hs, hb, hc]
  simp only [State.conflicts, h]

theorem latchConflict_latch (n : Nat) (s : State) : (latchConflict n s).board.latch.isSome = true := by
  simp [latchConflict]

/-- The conflict check leaves the latch set while a conflict exists, if it was set while one was remembered (R50). -/
theorem conflictCheck_latched (h : s.board.inConflict ≠ [] → s.board.latch.isSome = true) :
    (conflictCheck s).conflictsLatched := by
  have key : ∀ u : State, (u.conflicts ≠ [] → u.board.latch.isSome = true) →
      ({ u with board := { u.board with inConflict := u.conflicts } } : State).conflictsLatched :=
    fun u hu => ⟨rfl, hu⟩
  have board : ∀ (l : List Nat) (u : State), (l.foldl (fun s n => conflictPause n s) u).board = u.board :=
    fun l u => foldl_view State.board _ (fun s n => conflictPause_board n s) l u
  unfold conflictCheck
  apply key
  rw [board]
  intro hc
  split
  · next hl =>
    have hn : s.board.inConflict = [] := by
      by_contra hne
      have := h hne
      cases hx : s.board.latch <;> simp_all
    rw [hn] at hc
    split
    · exact latchConflict_latch _ _
    · next heq =>
      exfalso
      simp only [hn, List.contains_nil, Bool.not_false, List.filter_true] at heq hc
      unfold takeFirst at heq
      split at heq
      · next he =>
        cases heq
        rw [he] at hc
        simp [hl, takeFirst, he] at hc
      · cases heq
      · simp only [Prod.mk.injEq, List.getElem?_eq_none_iff, List.length_cons] at heq
        have := Nat.mod_lt (Config.firstTaken s.choices) (show 0 < (List.length ‹List Nat›) + 2 by omega)
        omega
  · next hl =>
    cases hx : s.board.latch <;> simp_all

theorem boardReact_latched (h : s.board.inConflict ≠ [] → s.board.latch.isSome = true) :
    (boardReact s).conflictsLatched := by
  unfold boardReact
  refine conflictCheck_latched ?_
  rw [(forShutters_view State.board (fun _ => true) _ finalIfClear_board _),
    (forShutters_view State.board (fun _ => true) _ resumeOnDwell_board _)]
  exact h

theorem startRaise_braked (n m : Nat) (s : State) :
    brakedAtClearLine ((startRaise n s).unit m) = brakedAtClearLine (s.unit m) := by
  by_cases hm : m = n
  · subst hm
    unfold startRaise
    split
    · next r sh _ hu =>
      split
      · next hw =>
        have hlt := unit_lt hu
        rw [hu]
        obtain ⟨st, o, f, g, e⟩ := sh
        cases hw
        split <;> simp [State.unit, putUnit_units, hlt, brakedAtClearLine, Shutter.reachTop]
      · rfl
    · rfl
  · rw [startRaise_unit_ne hm]

theorem arbiterLoop_braked (k m : Nat) (s : State) :
    brakedAtClearLine ((arbiterLoop k s).unit m) = brakedAtClearLine (s.unit m) := by
  induction k generalizing s with
  | zero => rfl
  | succ k ih =>
    unfold arbiterLoop
    split
    · rfl
    · split
      · rw [ih, startRaise_braked]; rfl
      · rfl

theorem conflictsLatched_congr (hs : t.steady = s.steady) (hd : t.day = s.day) (hc : t.chain = s.chain)
    (hb : ∀ n, brakedAtClearLine (t.unit n) = brakedAtClearLine (s.unit n)) (hl : t.board = s.board)
    (h : s.conflictsLatched) : t.conflictsLatched := by
  have he := conflicts_congr hs (by simp [State.unconfigured, hd]) hc hb
  simpa only [State.conflictsLatched, he, hl] using h

theorem motion_latched (h : s.board.inConflict ≠ [] → s.board.latch.isSome = true) : (motion s).conflictsLatched := by
  have h1 := boardReact_latched (s := chainSettle s) (by simpa using h)
  have h2 : (arbiter (boardReact (chainSettle s))).conflictsLatched :=
    conflictsLatched_congr (arbiter_steady _) (arbiter_day _) (arbiter_chain _) (arbiterLoop_braked _ · _)
      (arbiter_board _) h1
  refine conflictsLatched_congr ?_ ?_ ?_ ?_ ?_ h2
  · simp [motion]
  · simp [motion]
  · simp [motion]
  · intro n
    rw [unit_eq (s := arbiter (boardReact (chainSettle s))) (by simp [motion])]
  · simp [motion]

theorem dayStep_board (h : dayStep s = some t) : t.board = s.board := by
  have trading (c : StoreCause) (u : State) : (enterTrading c u).board = u.board := by
    unfold enterTrading closeWindowTest
    split
    · split
      · unfold enterClosing
        simp only
        split <;> (try split) <;> simp [enterClearing]
      · simp
    · simp
  have opening (c : StoreCause) (u : State) : (enterOpening c u).board = u.board := by simp [enterOpening]
  unfold dayStep at h
  split at h
  · split at h <;> cases h; simp [enterShutting]
  · split at h <;> cases h; simp
  · split at h <;> cases h; simp
  · unfold wakingStep at h
    split at h
    · cases h; exact opening _ _
    · split at h
      · cases h; exact opening _ _
      · split at h
        · split at h
          · cases h; simp
          · split at h
            · cases h; exact opening _ _
            · cases h
        · cases h; simp
  · split at h <;> cases h; exact trading _ _
  all_goals cases h

theorem dayLoop_latched (k : Nat) (h : s.conflictsLatched) : (dayLoop k s).conflictsLatched := by
  induction k generalizing s with
  | zero => exact h
  | succ k ih =>
    unfold dayLoop
    split
    · exact h
    · next hd =>
      refine ih (motion_latched ?_)
      rw [dayStep_board hd, h.1]
      exact h.2

/-- What follows a change leaves the conflict latch set while a conflict exists at any shutter, if it was set while one
was remembered (R50 to R52). -/
theorem settle_latched (h : s.board.inConflict ≠ [] → s.board.latch.isSome = true) : (settle s).conflictsLatched :=
  dayLoop_latched 12 (motion_latched h)

end Sys2Proof.Machine
end

