-- ==== Sys2Proof/Laws/Requests.lean ====
section
/-! SUPPORT. What a request's command does: it goes to the receive places (R174), and one that is taken is handed to its
block and its reply made ready (R175). -/

namespace Sys2Proof.Machine

/-- The serving place holds the request that is being taken (R174). -/
def State.serving (tag : Byte) (r : Request) (s : State) : State :=
  { s with link := { s.link with serving := some ⟨tag, r.kindByte, .request r⟩ } }

/-- A request's command is the request's arrival. -/
theorem exec_arrives {c : Instr} {tag : Byte} {r : Request} (s : State) (hc : c.request? = some (tag, r)) :
    exec c s = .next (receiveRequest tag r s) := by
  cases c <;> simp only [Instr.request?, Option.some.injEq, Prod.mk.injEq, reduceCtorEq] at hc <;>
    obtain ⟨rfl, rfl⟩ := hc <;> rfl

/-- With the serving place empty a well-formed request is taken at once. -/
theorem exec_taken {c : Instr} {tag : Byte} {r : Request} {s : State} (hc : c.request? = some (tag, r))
    (hw : r.wellFormed = true) (hs : s.serves) :
    exec c s = .next (carryOut ⟨tag, r.kindByte, .request r⟩ r (s.serving tag r)) := by
  rw [exec_arrives s hc]
  have hs' : s.link.serving = none := hs
  simp [receiveRequest, arrive, requestBody, hw, hs', takeRequest, State.serving, setLink]

/-- A request that its block answers at once, in a store state in which it is served. -/
theorem exec_replied {c : Instr} {tag : Byte} {r : Request} {s u : State} {payload : List Byte}
    (hc : c.request? = some (tag, r)) (hw : r.wellFormed = true) (hs : s.serves)
    (hu : s.unconfigured = false ∨ servedUnconfigured r.kind = true)
    (ha : serve r (s.serving tag r) = (.reply payload, u)) :
    exec c s = .next (pushReply ⟨tag, r.kindByte, .request r⟩ payload .serving u) := by
  rw [exec_taken hc hw hs]
  have : ((s.serving tag r).unconfigured && !servedUnconfigured r.kind) = false := by
    rcases hu with hu | hu
    · have : (s.serving tag r).unconfigured = s.unconfigured := rfl
      simp [this, hu]
    · simp [hu]
  simp [carryOut, this, ha]

/-- A request answered at once that changes nothing but the link. -/
theorem exec_refused {c : Instr} {tag : Byte} {r : Request} {s : State} {payload : List Byte}
    (hc : c.request? = some (tag, r)) (hw : r.wellFormed = true) (hs : s.serves)
    (hu : s.unconfigured = false ∨ servedUnconfigured r.kind = true)
    (ha : serve r (s.serving tag r) = (.reply payload, s.serving tag r)) :
    exec c s = .next (s.answered tag r payload) := by
  rw [exec_replied hc hw hs hu ha]; rfl

/-- A request answered at once, through the steady part of the state it leaves. -/
theorem exec_steady {c : Instr} {tag : Byte} {r : Request} {s u : State} {payload : List Byte} {x : Steady}
    (hc : c.request? = some (tag, r)) (hw : r.wellFormed = true) (hs : s.serves)
    (hu : s.unconfigured = false ∨ servedUnconfigured r.kind = true)
    (ha : serve r (s.serving tag r) = (.reply payload, u)) (hx : u.steady = x) :
    ∃ t, exec c s = .next t ∧ t.steady =
        { x with link := { x.link with ready := x.link.ready ++ [⟨tag, r.kindByte ||| 0x80#8, payload, .serving⟩] } } ∧
      t.chain = u.chain ∧ t.board = u.board ∧ t.shutters = u.shutters ∧ t.announcer = u.announcer ∧
      t.calls = u.calls ∧ t.day = u.day ∧ t.link.notices = u.link.notices := by
  refine ⟨_, exec_replied hc hw hs hu ha, ?_, rfl, rfl, rfl, rfl, rfl, rfl, rfl⟩
  subst hx; rfl

end Sys2Proof.Machine
end

