-- ==== Sys2Proof/Tests/Slice0.lean ====
section
/-! SUPPORT. Tests. The expected values of the worked examples are the manual's own, named at each; the others are worked by hand
from the rules named. `Demo` is a small store: two shutters at opening 0 and in a hall, a stock room, a chain of 12,000
pulses. -/

namespace Sys2Proof.Machine.Demo

set_option Elab.async false

/-- A record list with its first entries given. -/
def fill {α : Type} (n : Nat) (blank : α) (given : List α) : List α := given ++ List.replicate (n - given.length) blank

/-- The installation: zones 0 (SALES, night-close, hush), 1 (STAIR, night-close), 5 (STOCK_ROOM, floor 1); shutter 0 guards
opening 0, shutter 1 is PLAIN on the stair, shutter 2 PLAIN in the stock room; stations 13 and 20; the filter list of
section 6.6; a closing plan of offsets 30, 15 and 0. -/
def tables : Tables where
  zones := fill 32 Zone.empty [⟨.sales, 3, true, true⟩, ⟨.stair, 0, true, false⟩, Zone.empty, Zone.empty, Zone.empty,
    ⟨.stockRoom, 1, false, false⟩]
  site := ⟨0x102000#64, 0, 5⟩
  shutters := fill 32 none [some ⟨0, .opening 0 1000, 4000, 30, 1⟩, some ⟨1, .plain, 2000, 60, 0⟩,
    some ⟨5, .plain, 2000, 60, 2⟩]
  geometry := some ⟨12000, [0, 6000], 60, 100, 3000, 200⟩
  landings := fill 8 none [some ⟨400, 8000⟩]
  filters := fill 24 ⟨false, .range, 0, 0, .reject, false⟩ [⟨true, .pair, 55, 83, .chainStop, true⟩,
    ⟨true, .pair, 252, 253, .urgentCounting, true⟩, ⟨true, .mask, 0, 3, .toCounting, false⟩,
    ⟨true, .mask, 2, 3, .urgentFloor, true⟩, ⟨true, .mask, 1, 3, .toFloor, false⟩]
  phrases := fill 256 ⟨0, 0⟩ [⟨0, 0⟩, ⟨0, 24000⟩, ⟨24000, 7⟩]
  scriptA := some ⟨3, [1], 0x000F#16, 0, 90⟩
  scriptE := some ⟨1, [1, 1], 0xFFFF#16, 0, 91⟩
  plan := fill 6 none [some ⟨30, ⟨2, [1, 0, 1], 0x0008#16, 3, 20⟩⟩, some ⟨15, ⟨0, [1], 0x0008#16, 3, 21⟩⟩,
    some ⟨0, ⟨1, [1], 0x0008#16, 3, 22⟩⟩]

/-- A shutter standing in a state. -/
def stands (st : ShutterState) : Option Shutter := some ⟨st, 0, false, false, false⟩

/-- The store in TRADING at 18:00 with the chain STOPPED, every shutter OPEN and both fire lines normal. -/
def s : State :=
  { State.reset with
    store := { State.reset.store with tables := tables, unsaved := false }
    shutters := { Shutters.start with
      inputsRead := true
      inputs := fill 32 ⟨false, false, false, false⟩ [⟨true, false, true, false⟩, ⟨true, false, false, false⟩,
        ⟨true, false, false, false⟩]
      units := fill 32 none [stands .isOpen, stands .isOpen, stands .isOpen] }
    fire := { Fire.start with alertIn := some .normal, evacIn := some .normal, startUp := false }
    chain := { Chain.start with driveOk := true, restMs := 65535 }
    intake := { Intake.start with poll := some ⟨13, 0#4⟩ }
    day := { State.reset.day with
      state := .trading, clock := some 64800, schedule := ⟨some 30600, some 68400, true, true, true⟩ } }

/-- Changes of the demo state. -/
def atStore (x : StoreState) (s : State) : State := { s with day := { s.day with state := x } }
def inFire (x : FireState) (s : State) : State := { s with fire := { s.fire with state := x } }
def atChain (x : ChainState) (s : State) : State := { s with chain := { s.chain with state := x } }
def unit (n : Nat) (x : ShutterState) (s : State) : State :=
  { s with shutters := { s.shutters with units := s.shutters.units.set n (stands x) } }
def input (n : Nat) (x : Inputs) (s : State) : State :=
  { s with shutters := { s.shutters with inputs := s.shutters.inputs.set n x } }

/-- The state a command leaves. -/
def after (c : Instr) (s : State) : State :=
  match exec c s with
  | .next t => t
  | _ => s

/-- The payload of the reply a command makes ready. -/
def reply (c : Instr) (s : State) : List Byte := ((after c s).link.ready.getLast?.map Reply.payload).getD []






/-! ### Well-formed commands: one ill-formed term for each check -/

/-- A payload of more than 200 bytes fits no frame (R173). -/
theorem smoke_payload_too_long :
    (Instr.writeChain 1#8 ⟨12000#16, List.replicate 96 0#16, 60#16, 1#8, 0#16, 0#16⟩).wellFormed = false := by
  decide +kernel
/-- Zone index 32 chooses the site entry's payload (R3). -/
theorem smoke_zone_entry_32 : (Instr.writeZone 1#8 (.entry 32#8 1#8 0#8 0#8 0#8)).wellFormed = false := by decide
/-- Operation 1 chooses a deletion's payload (R175). -/
theorem smoke_shutter_record_op_1 :
    (Instr.writeShutter 1#8 0#8 (.record 1#8 0#8 0#8 0#8 500#16 0#16 1#8 0#8)).wellFormed = false := by decide
theorem smoke_closing_step_op_1 :
    (Instr.writeClosingStep 1#8 0#8 (.step 1#8 30#8 ⟨0#8, 0#8, 0#8, 1#16, [1#8]⟩)).wellFormed = false := by decide
theorem smoke_empty_frame : (Instr.frameComplete []).wellFormed = false := by decide
/-- 0x01 is GET_STATUS, which the catalogue lists. -/
theorem smoke_known_kind : (Instr.badKindRequest 1#8 0x01#8).wellFormed = false := by decide
/-- A reply on the call loop has at least one byte (R96). -/
theorem smoke_empty_poll_reply : (Instr.pollReplyEnd [] true).wellFormed = false := by decide
/-- A term of each kind that is well-formed. -/
theorem smoke_wellformed :
    (Instr.writeChain 1#8 ⟨12000#16, List.replicate 95 0#16, 60#16, 1#8, 0#16, 0#16⟩).wellFormed = true ∧
    (Instr.writeZone 1#8 (.entry 31#8 1#8 0#8 0#8 0#8)).wellFormed = true ∧
    (Instr.badKindRequest 1#8 0x99#8).wellFormed = true ∧ (Instr.pollReplyEnd [13#8] true).wellFormed = true := by
  decide +kernel

/-- The table gives no row any bits, so no word spells a command. -/
theorem test_no_word_spells_a_command : decodeTableWord 8 0x01 = none ∧ decodeTableWord 32 0xFFFFFFFF = none := by
  decide

/-! ### Resets -/

/-- The demo store with images in both banks, the newer in bank 1 by the wrap of the sequence number (section 1.9). -/
def saved : State :=
  { s with store := { s.store with
      bank0 := some ⟨65535, Tables.empty, Timing.default, Schedule.empty⟩
      bank1 := some ⟨1, tables, Timing.default, s.day.schedule⟩ } }

def locked : State := { saved with store := { saved.store with lock := true } }

theorem witness_PowerOn :
    (State.reset.store.bank0 = none ∧ State.reset.store.bank1 = none) ∧
    saved.store.newest? = some (true, ⟨1, tables, Timing.default, s.day.schedule⟩) ∧
    (after (.powerOnReset false false) saved).day.state = .standby ∧
    (after (.powerOnReset false true) saved).store.tables = Tables.empty ∧
    (after (.powerOnReset true true) saved).day.state = .unconfigured := by decide +kernel

theorem witness_PinResetUnderLock :
    locked.store.lock = true ∧ (locked.store.newest?).isSome = true ∧
    { locked.store with bank0 := none, bank1 := none }.newest? = none ∧
    (after (.pinReset true true) locked).store.imageFault = true ∧
    (after (.pinReset true true) locked).intake.poll = some ⟨13, 0#4⟩ ∧
    (after (.pinReset true true) locked).day.clock = some 64800 := by decide +kernel

theorem witness_PinResetWithoutLock :
    saved.store.lock = false ∧ (saved.store.newest?).isSome = true ∧
    { saved.store with bank0 := none, bank1 := none }.newest? = none ∧
    (after (.pinReset true true) (inFire .alert saved)).fire.entry = some ⟨.startUp, some 64800⟩ ∧
    (after (.pinReset false false) (inFire .alert saved)).fire.state = .alert := by decide +kernel

/-! ### The service link -/

/-- The check value that section 10.8 gives for its CRC: "123456789" gives 0x29B1. -/
theorem test_crc : crc16 [0x31#8, 0x32#8, 0x33#8, 0x34#8, 0x35#8, 0x36#8, 0x37#8, 0x38#8, 0x39#8] = 0x29B1#16 := by
  decide +kernel

theorem witness_PayloadReadsBack :
    (Request.writeChain ⟨12000#16, List.replicate 95 1#16, 60#16, 1#8, 0#16, 0#16⟩).wellFormed = true ∧
    (Request.loopStatus none).wellFormed = true ∧ bodyOf 0x52#8 [] = .request (.loopStatus none) ∧
    bodyOf 0x52#8 [3#8] = .request (.loopStatus (some 3#8)) := by decide +kernel

theorem witness_WholeFrameReceived :
    (Instr.setTime 9#8 86399#24).request? = some (9#8, .setTime 86399#24) ∧
    (Request.setTime 86399#24).wellFormed = true ∧ s.link.partialFrame = none ∧
    reply (.frameComplete (frameBytes 0x02#8 9#8 [1#8, 0x51#8, 0x7F#8])) s = reply (.setTime 9#8 86399#24) s := by
  decide +kernel

theorem witness_BadFramesAnswered :
    s.serves ∧ s.link.partialFrame = none ∧ payloadReader 0x99 = none ∧ payloadReader 0xFF = none ∧
    (payloadReader 0x02).isSome = true ∧ ((payloadReader 0x02).getD fun _ => none) [] = none ∧
    reply (.badKindRequest 1#8 0x99#8) s = [2#8] ∧
    reply (.frameComplete (frameBytes 0x02#8 1#8 [7#8])) s = [1#8] ∧
    (Instr.writeChain 1#8 ⟨12000#16, List.replicate 96 0#16, 60#16, 1#8, 0#16, 0#16⟩).request?.isSome = true ∧
    reply (.writeChain 1#8 ⟨12000#16, List.replicate 96 0#16, 60#16, 1#8, 0#16, 0#16⟩) s = [1#8] := by decide +kernel

/-- A partial frame of so many bytes after its start. -/
def assembling (got : List Byte) : State := { s with link := { s.link with partialFrame := some got } }

/-- LEN 200 is the longest, 201 too long; LEN 0 completes at its fifth byte; 0xA5 inside a frame is data (R173). -/
theorem witness_ReceiverBytes :
    s.link.partialFrame = none ∧ (assembling []).link.partialFrame = some [] ∧ (([] ++ [201#8]).headD 0#8).toNat = 201 ∧
    (after (.serviceLineByteArrives 201#8 true) (assembling [])).link.gapDiscards = 1 ∧
    (after (.serviceLineByteArrives 200#8 true) (assembling [])).link.partialFrame = some [200#8] ∧
    (after (.serviceLineByteArrives 0xA5#8 true) (assembling [0#8])).link.partialFrame = some [0#8, 0xA5#8] ∧
    (after (.serviceLineByteArrives 1#8 false) (assembling [0#8])).link.gapDiscards = 1 ∧
    (after (.serviceLineByteArrives 0#8 true) (assembling [0#8, 1#8, 2#8, 0#8])).link.crcDiscards = 1 ∧
    bytes16 (crc16 [0#8, 1#8, 2#8]) ≠ [0#8, 0#8] ∧
    (after .receiveGapTimeout (assembling [])).link.gapDiscards = 1 := by decide +kernel

/-- A frame's bytes from LEN on but for the last, and the last. -/
def lastOf (frame : List Byte) : Byte := frame.getLast?.getD 0#8
def allButLast (frame : List Byte) : State := assembling (frame.drop 1).dropLast

/-- The last CRC byte of a GET_STATUS frame answers it; so it does a frame of unknown KIND and one of bad length. -/
theorem witness_ReceiverBytes_completes :
    0xA5#8 :: ((frameBytes 0x01#8 7#8 []).drop 1).dropLast ++ [lastOf (frameBytes 0x01#8 7#8 [])] =
      frameBytes 0x01#8 7#8 [] ∧
    (Instr.getStatus 7#8).request? = some (7#8, .getStatus) ∧ Request.getStatus.wellFormed = true ∧
    Request.getStatus.kindByte = 0x01#8 ∧ Request.getStatus.payload = [] ∧
    reply (.serviceLineByteArrives (lastOf (frameBytes 0x01#8 7#8 [])) true) (allButLast (frameBytes 0x01#8 7#8 [])) =
      reply (.getStatus 7#8) s ∧
    reply (.serviceLineByteArrives (lastOf (frameBytes 0x99#8 7#8 [])) true) (allButLast (frameBytes 0x99#8 7#8 [])) =
      [2#8] ∧
    reply (.serviceLineByteArrives (lastOf (frameBytes 0x02#8 7#8 [7#8])) true)
      (allButLast (frameBytes 0x02#8 7#8 [7#8])) = [1#8] := by decide +kernel

def ready (r : List Reply) (s : State) : State := { s with link := { s.link with ready := r } }
def sends (x : Sending) (s : State) : State := { s with link := { s.link with sending := some x } }
def answerOf (k : ReplyFor) : Reply := ⟨5#8, 0x81#8, [0#8], k⟩
/-- FIRE_STAGE latched with its arm flag clear, CONFLICT latched and armed, CALL armed only. -/
def noticed : State := { s with link := { s.link with notices := (fill 12 ⟨none, false⟩
  [⟨some ⟨[9#8], 3⟩, false⟩, ⟨none, true⟩, ⟨some ⟨[7#8], 255⟩, true⟩]) } }

theorem witness_TransmitterChooses :
    (sends (.notice []) s).link.sending.isSome = true ∧
    (s.link.sending = none ∧ (ready [answerOf .serving] s).link.ready = [answerOf .serving]) ∧
    (s.link.ready = [] ∧ ∀ c ∈ s.link.notices, c.latched = none ∨ c.armed = false) ∧
    noticed.link.notices = [⟨some ⟨[9#8], 3⟩, false⟩, ⟨none, true⟩] ++ ⟨some ⟨[7#8], 255⟩, true⟩ ::
      List.replicate 9 ⟨none, false⟩ ∧
    (after .noticeSendStart noticed).link.sending = some (.notice [2#8, 255#8, 7#8]) ∧
    (after .replySendStart (ready [answerOf .serving] noticed)).link.sending = some (.reply (answerOf .serving)) := by
  decide +kernel

def inPlace (a : Option Held) (b : Option Held) (s : State) : State :=
  { s with link := { s.link with serving := a, holding := b } }
def first : Held := ⟨1#8, 0x01#8, .request .getStatus⟩
def second : Held := ⟨2#8, 0x21#8, .request .chainStop⟩

theorem witness_ReceivePlaces :
    (Request.chainStop).wellFormed = true ∧ (inPlace (some first) none s).link.holding = none ∧
    (after (.chainStop 2#8) (inPlace (some first) none s)).link.holding = some second ∧
    (after (.chainStop 3#8) (inPlace (some first) (some second) s)).link.overrunDiscards = 1 ∧
    (after .frameSent (sends (.notice []) s)).link.sending = none ∧
    (after .frameSent (sends (.reply (answerOf .owedSave)) s)).link.sending = none ∧
    (after .frameSent (sends (.reply (answerOf .serving)) (inPlace (some first) none s))).link.serving = none ∧
    (after .frameSent (sends (.reply (answerOf .serving)) (inPlace (some first) (some second) s))).link.serving =
      some second := by decide +kernel

theorem witness_NoticesArmed :
    s.takes ∧ s.link.notices.length = 12 ∧ (4096#16 : BitVec 16).toNat = 4096 ∧
    reply (.armNotices 1#8 4096#16) s = [3#8] ∧
    reply (.armNotices 1#8 4095#16) s = [0#8, 0x0F#8, 0xFF#8, 0#8, 0x20#8] ∧
    ((raise .call [1#8] noticed).notice 7).latched = some ⟨[1#8], 1⟩ ∧
    ((raise .conflict [1#8] noticed).notice 2).latched = some ⟨[1#8], 255⟩ := by decide +kernel

/-- A cabin stands at opening 0, whose shutter hangs below its clear line: a conflict condition (R49). -/
def hanging : State :=
  unit 0 (.paused .obstruction .final 0) (input 0 ⟨false, false, false, true⟩ 
    { s with chain := { s.chain with p := 400, nLast := 75 } })

theorem witness_ClearLatch :
    s.takes ∧ s.link.notices.length = 12 ∧ (∀ n < 32, s.conflictAt n = false) ∧ hanging.conflictAt 0 = true ∧
    reply (.clearLatch 1#8 4096#16) s = [3#8] ∧ reply (.clearLatch 1#8 4#16) hanging = [7#8] ∧
    reply (.clearLatch 1#8 4#16) s = [0#8, 0#8, 0#8, 0#8, 0x20#8] ∧
    reply (.clearLatch 1#8 0x20#16) s = [0#8, 0#8, 0#8, 0#8, 0#8] := by decide +kernel

/-- A RUNNING chain takes a cabin into the window of opening 0, at 340 to 460, behind the curtain of its shutter, which
fell no further than its clear line after a conflict pause taken in FINAL (R49): the record names cabin 0 at p = 340. -/
def meeting : State :=
  unit 0 (.held false) (input 0 ⟨false, false, false, false⟩
    { s with chain := { s.chain with state := .running, synced := true, p := 339, nPrev := 37, nLast := 38 } })

theorem witness_ClearLatch_sets :
    meeting.unconfigured = false ∧ meeting.chain.state = .running ∧ meeting.storeRests ∧ meeting.board.latch = none ∧
    meeting.shutters.units.length = 32 ∧ meeting.link.notices.length = 12 ∧ meeting.conflicts = [] ∧
    0 ∉ meeting.board.inConflict ∧ 0 ∉ meeting.shutters.raiseQueue ∧
    (∀ m < 32, m ≠ 0 → (meeting.record m).bind ShutterRec.opening? = none) ∧
    (after (.encoderStep true) meeting).board.latch = some ⟨0, 0, 0, 340, true, 150, some 64800⟩ ∧
    (after (.encoderStep true) meeting).chain.state = .halted ⟨.conflict, none, .running, 340, true, some 64800⟩ ∧
    (after (.encoderStep true) meeting).unit 0 = stands (.paused .conflict .final 0) ∧
    ((after (.encoderStep true) meeting).notice 2).latched =
      some ⟨[0#8, 0#8, 0#8, 0x01#8, 0x54#8, 0#8, 0#8, 150#8, 0#8, 0xFD#8, 0x20#8], 1⟩ := by decide +kernel

/-- The same curtain with the chain STOPPED and a cabin in the window: CHAIN_START latches at once (R50, R51). -/
def blocked : State := { atChain .stopped meeting with chain := { meeting.chain with
  state := .stopped, p := 400, nPrev := 0, nLast := 0 } }

theorem witness_ClearLatch_start :
    blocked.takes ∧ blocked.conflicts = [] ∧ blocked.chain.driveOk = true ∧ blocked.chain.synced = true ∧
    (after (.chainStart 1#8) blocked).board.latch = some ⟨0, 0, 0, 400, true, 0, some 64800⟩ ∧
    (after (.chainStart 1#8) blocked).chain.state = .halted ⟨.conflict, none, .running, 400, true, some 64800⟩ := by
  decide +kernel

theorem witness_ClearLatch_invariant :
    (meeting.board.inConflict = meeting.conflicts ∧ meeting.conflicts = []) ∧
    (after (.encoderStep true) meeting).conflicts = [0] := by decide +kernel

/-- A RESTART whose reply is being sent. -/
def restarting (s : State) : State := sends (.reply (answerOf .restart)) (inPlace (some ⟨1#8, 0x07#8, .request .restart⟩) none s)

theorem witness_RestartRuns :
    s.serves ∧ s.link.sending = none ∧ (answerOf .restart).answers = .restart ∧
    (restarting s).link.sending = some (.reply (answerOf .restart)) ∧ (restarting s).storeRests ∧
    (restarting s).fire.state = .normal ∧
    (after .restartTakesEffect (restarting (atChain .running { s with chain := { s.chain with nLast := 75 } }))).chain.state =
      .stopping .plain ∧
    (after .restartTakesEffect (restarting s)).intake.quietWait = true ∧
    (after .firstPollAfterRestart (after .restartTakesEffect (restarting s))).intake.poll = some ⟨13, 0#4⟩ := by
  decide +kernel

/-- The demo store with shutter 0 in its final descent: no shutter has a move due. -/
theorem witness_RestartRuns_shutters :
    (restarting (unit 0 (.final 1500) s)).storeRests ∧ (restarting (unit 0 (.final 1500) s)).shuttersSettled ∧
    (restarting (unit 0 (.final 1500) s)).outOfDoorway 0 ∧
    (after .restartTakesEffect (restarting (unit 0 (.final 1500) s))).unit 0 = stands (.final 1500) := by
  have all : ∀ x ∈ (restarting (unit 0 (.final 1500) s)).shutters.units,
      (x.all fun sh => decide (sh.state.phase ≠ .held ∧ sh.state.phase ≠ .paused)) = true := by decide +kernel
  have none_waits : ∀ n sh, (restarting (unit 0 (.final 1500) s)).unit n = some sh →
      sh.state.phase ≠ .held ∧ sh.state.phase ≠ .paused := by
    intro n sh h
    have hn := unit_lt h
    have e : (restarting (unit 0 (.final 1500) s)).shutters.units[n] = some sh := by
      rw [← h, State.unit, List.getD_eq_getElem _ _ hn]
    simpa [e] using all _ (List.getElem_mem hn)
  refine ⟨by decide +kernel, ⟨by decide +kernel, by decide +kernel, fun n _ sh marked _ h e => ?_,
    fun n sh resume time h e => ?_, .inl (by decide +kernel)⟩, .inr (.inl (by decide +kernel)), by decide +kernel⟩
  · exact absurd (by rw [e]; rfl) (none_waits n sh h).1
  · exact absurd (by rw [e]; rfl) (none_waits n sh h).2

theorem witness_RestartRuns_latch :
    (restarting (after (.encoderStep true) meeting)).board.latch.isSome = true ∧
    ((after (.encoderStep true) meeting).notice 2).latched.isSome = true ∧
    (after .restartTakesEffect (restarting (after (.encoderStep true) meeting))).board.latch =
      (after (.encoderStep true) meeting).board.latch ∧
    ((after .restartTakesEffect (restarting (after (.encoderStep true) meeting))).notice 2).latched = none := by
  decide +kernel

theorem witness_ReadsChangeNothing :
    State.reset.serves ∧ s.takes ∧ (reply (.loopStatus 1#8 none) State.reset).length = 141 ∧
    reply (.loopStatus 1#8 (some 4#8)) s = [3#8] ∧ (reply (.readCalls 1#8 1#8) s).head? = some 0#8 ∧
    reply (.readCalls 1#8 2#8) s = [4#8] ∧ (reply (.openingQuery 1#8 0#8) s).head? = some 0#8 ∧
    reply (.openingQuery 1#8 1#8) s = [3#8] ∧ reply (.openingQuery 1#8 31#8) s = [8#8] ∧
    reply (.openingQuery 1#8 32#8) s = [4#8] ∧ reply (.readShutter 1#8 32#8) s = [4#8] ∧
    reply (.readFilter 1#8 24#8) s = [4#8] ∧ reply (.readZone 1#8 33#8) s = [4#8] ∧
    reply (.readLog 1#8 9#8) s = [3#8] := by decide +kernel

/-- READ_ZONE returns the record as stored: SALES, group 3, night-close and hush (R2); READ_FILTER entry 2 of section 6.6. -/
theorem test_reads :
    reply (.readZone 1#8 0#8) s = [0#8, 1#8, 3#8, 1#8, 1#8] ∧
    reply (.readFilter 1#8 2#8) s = [0#8, 1#8, 2#8, 0#8, 3#8, 0#8, 0#8] := by decide +kernel

theorem witness_UnconfiguredRefuses :
    State.reset.serves ∧ State.reset.unconfigured = true ∧ Request.openNow.wellFormed = true ∧
    Request.openNow.kind = 0x04 ∧ (Request.clearLatch 0#16).kind = 0x71 ∧ reply (.openNow 1#8) State.reset = [9#8] ∧
    reply (.clearLatch 1#8 0#16) State.reset = [9#8] := by decide +kernel

/-! ### The Commissioning Store -/

def saving (s : State) : State :=
  { s with store := { s.store with saving := some ⟨false, ⟨1, tables, Timing.default, s.day.schedule⟩⟩ } }
def unlocked (unsaved : Bool) : State := { s with store := { s.store with unsaved := unsaved } }
def scriptFields : ScriptFields := ⟨7#8, 7#8, 255#8, 1#16, [1#8]⟩

theorem witness_LockedTablesStand :
    locked.store.lock = true ∧ (after (.writePhrase 1#8 0#8 0#24 8#24) locked).store.tables = tables ∧
    (after (.pinReset true true) locked).store.tables = tables ∧
    (after (.powerOnReset true true) locked).store.lock = false := by decide +kernel

theorem witness_LockHoldsWritesBack :
    locked.serves ∧ (Request.writePhrase 0#8 0#24 8#24).writesTables = true ∧
    (Request.writePhrase 0#8 0#24 8#24).wellFormed = true ∧
    reply (.writePhrase 1#8 0#8 0#24 8#24) locked = [5#8] ∧
    (saving s).store.saving.isSome = true ∧ (saving s).store.lock = false ∧ (saving s).unconfigured = false ∧
    reply (.writePhrase 1#8 0#8 0#24 8#24) (saving s) = [7#8] ∧
    reply (.setSchedule 1#8 0xFFFFFF#24 86399#24 0#8 1#8) (saving s) = [7#8] ∧
    reply (.setWake 1#8 1#8 0#8) (saving s) = [7#8] ∧ reply (.lockCommission 1#8) (saving s) = [7#8] ∧
    reply (.lockCommission 1#8) locked = [0#8] ∧ (unlocked true).writable ∧
    reply (.lockCommission 1#8) (unlocked true) = [6#8] ∧ reply (.lockCommission 1#8) State.reset = [6#8] ∧
    (unlocked false).writable ∧ (after (.lockCommission 1#8) (unlocked false)).store.lock = true := by decide +kernel

/-- Index 31 is the last zone, 33 is refused; night-close and hush of an UNUSED zone are stored as no (R2, R3). -/
theorem witness_ZoneAndSiteWritten :
    s.writable ∧ reply (.writeZone 1#8 (.entry 33#8 1#8 0#8 0#8 0#8)) s = [4#8] ∧
    reply (.writeZone 1#8 (.entry 31#8 6#8 0#8 0#8 0#8)) s = [3#8] ∧
    reply (.writeZone 1#8 (.entry 31#8 1#8 16#8 0#8 0#8)) s = [3#8] ∧
    reply (.writeZone 1#8 (.entry 5#8 0#8 0#8 0#8 0#8)) s = [3#8] ∧
    (∃ r, some r = s.store.tables.shutters[2]?.join ∧ r.zone = 5) ∧
    reply (.writeZone 1#8 (.entry 31#8 0#8 15#8 1#8 1#8)) s = [0#8, 0#8, 15#8, 0#8, 0#8] ∧
    reply (.writeZone 1#8 (.entry 31#8 5#8 15#8 1#8 1#8)) s = [0#8, 5#8, 15#8, 1#8, 1#8] ∧
    reply (.writeZone 1#8 (.site 1#64 32#8 0#8)) s = [3#8] ∧
    reply (.writeZone 1#8 (.site 0#64 31#8 31#8)) s = [0#8, 0#8, 0#8, 0#8, 0#8, 0#8, 0#8, 0#8, 0#8, 31#8, 31#8] ∧
    (after (.writeZone 1#8 (.site 0#64 31#8 31#8)) s).intake.fromLowest = true := by
  refine ⟨by decide, by decide +kernel, by decide +kernel, by decide +kernel, by decide +kernel,
    ⟨_, rfl, rfl⟩, by decide +kernel, by decide +kernel, by decide +kernel, by decide +kernel, by decide +kernel⟩

/-- T1 of 599 ms is stored as 500 ms; 499 and 20,001 ms are out of range (R4). -/
theorem witness_ShutterWritten :
    s.writable ∧ s.fire.state = .normal ∧ s.record 31 = none ∧ s.shutters.inputsRead = true ∧
    s.shutters.units.length = 32 ∧ 31 ∉ s.shutters.raiseQueue ∧ s.storeRests ∧
    reply (.writeShutter 1#8 32#8 (.record 0#8 0#8 0#8 0#8 500#16 0#16 1#8 0#8)) s = [4#8] ∧
    reply (.writeShutter 1#8 31#8 (.record 0#8 0#8 0#8 0#8 499#16 0#16 1#8 0#8)) s = [3#8] ∧
    reply (.writeShutter 1#8 31#8 (.record 0#8 0#8 0#8 0#8 20001#16 0#16 1#8 0#8)) s = [3#8] ∧
    reply (.writeShutter 1#8 31#8 (.record 0#8 0#8 1#8 2#8 500#16 500#16 1#8 0#8)) s = [3#8] ∧
    reply (.writeShutter 1#8 31#8 (.record 0#8 0#8 0#8 0#8 500#16 0#16 1#8 0#8)) (inFire .alert s) = [10#8] ∧
    reply (.writeShutter 1#8 0#8 (.record 0#8 0#8 0#8 0#8 500#16 0#16 1#8 0#8)) (unit 0 (.held true) s) = [6#8] ∧
    (after (.writeShutter 1#8 31#8 (.record 0#8 0#8 1#8 1#8 20000#16 599#16 120#8 3#8))
      (input 31 ⟨true, true, true, false⟩ s)).record 31 = some ⟨0, .opening 1 500, 20000, 120, 3⟩ ∧
    (after (.writeShutter 1#8 31#8 (.record 0#8 0#8 0#8 0#8 599#16 0#16 1#8 0#8)) s).record 31 =
      some ⟨0, .plain, 500, 1, 0⟩ ∧
    (after (.writeShutter 1#8 31#8 (.record 0#8 0#8 0#8 0#8 599#16 0#16 1#8 0#8))
      (input 31 ⟨true, true, false, false⟩ s)).unit 31 = stands (.fault .limitConflict 0) ∧
    (after (.writeShutter 1#8 2#8 .deletion) s).unit 2 = none := by decide +kernel

def chainFields (length : BitVec 16) (offsets : List (BitVec 16)) : ChainFields :=
  ⟨length, offsets, 10#16, 1#8, 0#16, 2000#16⟩

/-- L of 2,047 is out of range; one of 8,000 is exceeded by landing 0's opening at 8,000 (R5, R6). -/
theorem witness_ChainAndLandingWritten :
    s.writable ∧ s.chain.state = .stopped ∧
    reply (.writeChain 1#8 (chainFields 2047#16 [0#16, 1#16])) s = [3#8] ∧
    reply (.writeChain 1#8 (chainFields 8000#16 [0#16, 1#16])) s = [3#8] ∧
    reply (.writeChain 1#8 (chainFields 60000#16 [0#16])) s = [3#8] ∧
    reply (.writeChain 1#8 (chainFields 8001#16 [0#16, 8000#16])) (atChain .running s) = [6#8] ∧
    (after (.writeChain 1#8 (chainFields 8001#16 [0#16, 8000#16])) s).store.tables.geometry =
      some ⟨8001, [0, 8000], 10, 1, 0, 2000⟩ ∧
    reply (.writeLanding 1#8 8#8 1#8 0#16 0#16) s = [4#8] ∧
    reply (.writeLanding 1#8 7#8 1#8 12000#16 0#16) s = [3#8] ∧
    reply (.writeLanding 1#8 0#8 0#8 0#16 0#16) s = [3#8] ∧
    reply (.writeLanding 1#8 0#8 1#8 1#16 1#16) (unit 0 (.held true) s) = [6#8] ∧
    reply (.writeLanding 1#8 7#8 1#8 11999#16 0#16) (atChain .running s) = [6#8] ∧
    (after (.writeLanding 1#8 7#8 1#8 11999#16 0#16) s).store.tables.landings[7]?.join = some ⟨11999, 0⟩ := by
  decide +kernel

/-- The flash ends at 2,097,152 (R8); an offset already in the plan is refused (R10). -/
theorem witness_ListsAndTimingsWritten :
    s.writable ∧ reply (.writeFilter 1#8 24#8 1#8 2#8 0#8 0#8 5#8 1#8) s = [4#8] ∧
    reply (.writeFilter 1#8 23#8 1#8 3#8 0#8 0#8 5#8 1#8) s = [3#8] ∧
    reply (.writeFilter 1#8 23#8 1#8 2#8 9#8 3#8 5#8 1#8) s = [0#8, 1#8, 2#8, 9#8, 3#8, 5#8, 1#8] ∧
    reply (.writePhrase 1#8 255#8 2097152#24 1#24) s = [3#8] ∧
    (after (.writePhrase 1#8 255#8 2097151#24 1#24) s).store.tables.phrases[255]? = some ⟨2097151, 1⟩ ∧
    reply (.writeFireScript 1#8 2#8 scriptFields) s = [4#8] ∧
    reply (.writeFireScript 1#8 1#8 { scriptFields with phrases := [] }) s = [3#8] ∧
    (after (.writeFireScript 1#8 1#8 scriptFields) s).store.tables.scriptE = some ⟨7, [1], 1#16, 7, 255⟩ ∧
    reply (.writeClosingStep 1#8 6#8 (.step 0#8 1#8 scriptFields)) s = [4#8] ∧
    reply (.writeClosingStep 1#8 5#8 (.step 0#8 30#8 scriptFields)) s = [3#8] ∧
    reply (.writeClosingStep 1#8 5#8 (.step 0#8 121#8 scriptFields)) s = [3#8] ∧
    reply (.writeClosingStep 1#8 5#8 (.step 0#8 120#8 scriptFields)) (atStore .closing s) = [6#8] ∧
    (after (.writeClosingStep 1#8 5#8 (.step 0#8 120#8 scriptFields)) s).store.tables.plan[5]?.join =
      some ⟨120, ⟨7, [1], 1#16, 7, 255⟩⟩ ∧
    (after (.writeClosingStep 1#8 0#8 .deletion) s).store.tables.plan[0]? = some none := by decide +kernel

/-- R11: 5,001 ms is stored as 5,000, an escalation time of 1 s as 30 s, and an "off" of 0 stays 0. -/
theorem test_timings_clamped :
    (after (.writeTimings 1#8 ⟨5001#16, 0#8, 0#16, 31#8, 1#16, 0#16, 0#8, 31#8, 601#16, 0#16, 0#8, 9#8, 1#8, 0#8, 1#8⟩)
      s).store.timing = ⟨5000, 5, 0, 30, 30, 0, 1, 30, 600, 30, 10, 8, true, false, true⟩ := by decide +kernel

theorem witness_SaveRuns :
    s.serves ∧ s.store.saving = none ∧ s.store.tables.geometry.isSome = true ∧
    (s.store.bank0 = none ∧ s.store.bank1 = none) ∧ reply (.saveSettings 1#8) (saving s) = [7#8] ∧
    State.reset.store.tables.geometry = none ∧ reply (.saveSettings 1#8) State.reset = [6#8] ∧
    ((after (.saveSettings 1#8) s).store.saving.map fun j => (j.intoBank1, j.image.sequence)) = some (false, 1) ∧
    ((after (.saveSettings 1#8) saved).store.saving.map fun j => (j.intoBank1, j.image.sequence)) = some (false, 2) ∧
    (after (.saveSettings 1#8) s).link.owedSave = some 1#8 ∧ s.unconfigured = false ∧
    reply (.saveComplete true) (after (.saveSettings 1#8) s) = [0#8] ∧
    reply (.saveComplete false) (after (.saveSettings 1#8) s) = [7#8] := by decide +kernel

theorem witness_SavedImageLoads :
    saved.serves ∧ saved.store.saving = none ∧ saved.store.tables.geometry.isSome = true ∧
    saved.store.newest?.isSome = true ∧
    (after (.saveComplete true) (after (.saveSettings 1#8) saved)).store.saving = none := by decide +kernel

/-- The demo store as it is before its first save. -/
def fresh : State := saving { s with day := { s.day with state := .unconfigured }, shutters := { s.shutters with
  units := List.replicate 32 none } }

theorem witness_LeavesUnconfigured :
    fresh.unconfigured = true ∧ fresh.store.saving.isSome = true ∧ fresh.fire.state = .normal ∧
    fresh.fire.startUp = false ∧ fresh.fire.evacIn ≠ some .active ∧ fresh.fire.alertIn ≠ some .active ∧
    (after (.saveComplete true) fresh).day.state = .standby ∧
    (after (.saveComplete true) { fresh with fire := { fresh.fire with evacIn := some .active } }).fire.state =
      .evacuate ∧
    (after (.saveComplete true) { fresh with fire := { fresh.fire with alertIn := some .active } }).fire.state =
      .alert ∧
    (after (.saveComplete true) { fresh with fire := { fresh.fire with
      entry := some ⟨.reset, none⟩, alertFault := some ⟨true, none⟩ } }).fire =
      { fresh.fire with entry := some ⟨.startUp, some 64800⟩ } ∧
    { fresh.fire with startUp := true }.startUp = true := by decide +kernel

/-! ### The chain -/

def rolling (a b : Int) (s : State) : State := { s with chain := { s.chain with nPrev := a, nLast := b } }
def synced (p : Nat) (s : State) : State := { s with chain := { s.chain with synced := true, p := p } }
def halted : ChainState := .halted ⟨.drive, none, .running, 0, true, none⟩
def free (s : State) : State :=
  { s with shutters := { s.shutters with inputs := List.replicate 32 ⟨true, false, true, false⟩ } }

theorem witness_ChainStarts :
    s.takes ∧ reply (.chainStart 1#8) (atStore .standby s) = [6#8] ∧ reply (.chainStart 1#8) (inFire .evacuate s) = [6#8] ∧
    reply (.chainStart 1#8) (atChain .running s) = [6#8] ∧
    reply (.chainStart 1#8) { s with chain := { s.chain with driveOk := false } } = [7#8] ∧
    (free s).takes ∧ (free s).doorwaysFree ∧ (free s).sparesChain ∧ (free s).board.latch = none ∧
    (after (.chainStart 1#8) (free (synced 5 s))).chain.state = .running ∧
    (after (.chainStart 1#8) (free s)).chain.state = .syncRun 0 := by decide +kernel

/-- The park position is 3,000 and the stopping distance 200 (R31): at 2,799 the chain parks, at 2,800 it stops to park. -/
theorem witness_ChainStopsAndParks :
    s.takes ∧ ChainState.running.runs = true ∧
    (after (.chainStop 1#8) (rolling 0 1 (atChain .running s))).chain.state = .stopping .plain ∧
    (after (.chainStop 1#8) (atChain .running s)).chain.state = .stopped ∧
    (after (.chainStop 1#8) (atChain halted s)).chain.state = halted ∧
    reply (.chainPark 1#8) (atChain (.clearOut 0) s) = [0#8] ∧ reply (.chainPark 1#8) (atChain .parking s) = [0#8] ∧
    reply (.chainPark 1#8) (atChain (.syncRun 0) s) = [6#8] ∧ reply (.chainPark 1#8) s = [6#8] ∧
    (after (.chainPark 1#8) (rolling 1 0 (atChain .running (free s)))).chain.state = .stopping .plain ∧
    (after (.chainPark 1#8) (rolling 1 0 (atChain .running (free (synced 2799 s))))).chain.state = .parking ∧
    (after (.chainPark 1#8) (rolling 1 0 (atChain .running (free (synced 2800 s))))).chain.state = .stopping .park := by
  decide +kernel

/-- Code 55 is station 13's button 3. -/
def pushed (held : BitVec 4) : State :=
  atChain halted { s with
    chain := { s.chain with stopPushes := BitVec.twoPow 256 55 }
    intake := { s.intake with stations := s.intake.stations.set 13 { Station.start with lastReply := some held } } }

theorem witness_ChainResets :
    s.takes ∧ reply (.chainReset 1#8) s = [6#8] ∧ reply (.chainReset 1#8) (rolling 0 1 (pushed 0#4)) = [7#8] ∧
    (pushed 8#4).chain.stopPushes.getLsbD 55 = true ∧ reply (.chainReset 1#8) (pushed 8#4) = [7#8] ∧
    reply (.chainReset 1#8) (pushed 7#4) = [0#8] ∧ (after (.chainReset 1#8) (pushed 7#4)).chain.stopPushes = 0#256 := by
  decide +kernel

/-- A sync run of 1.25 × 12,000 = 15,000 steps halts (R28); a clear-out of 12,000 goes to PARKING (R30). -/
theorem witness_EncoderStepCounts :
    State.reset.unconfigured = true ∧ (after (.encoderStep true) State.reset).chain.window = 1 ∧
    (free s).doorwaysFree ∧ (free s).sparesChain ∧ (after (.encoderStep false) s).chain.p = 11999 ∧
    (after (.encoderStep true) (synced 11999 s)).chain.p = 0 ∧
    (after (.encoderStep true) (atChain (.syncRun 14999) s)).chain.state.phase = .halted ∧
    (after (.encoderStep true) (atChain (.syncRun 14998) (free s))).chain.state = .syncRun 14999 ∧
    (after (.encoderStep true) (atChain .running (free s))).chain.state = .running ∧
    (after (.encoderStep true) (atChain (.clearOut 11998) (free s))).chain.state = .clearOut 11999 ∧
    (after (.encoderStep true) (rolling 1 1 (atChain (.clearOut 11999) (free s)))).chain.state = .stopping .plain ∧
    (after (.encoderStep true) (rolling 1 1 (atChain .parking (free (synced 2799 s))))).chain.state = .stopping .park ∧
    (after (.encoderStep true) { s with chain := { s.chain with window := 2047 } }).chain.window = 2047 := by
  decide +kernel

/-- With tolerance 100, an index at p = 100 is taken and one at 101 is a slip fault; 11,900 is −100 (R20). -/
theorem witness_IndexCheck :
    State.reset.unconfigured = true ∧ (free s).doorwaysFree ∧ (free s).sparesChain ∧
    (after .indexPulse (atChain (.syncRun 5) (free s))).chain.state = .running ∧
    (after .indexPulse (synced 100 s)).chain.lastSlip = some 100 ∧ (after .indexPulse (synced 100 s)).chain.p = 0 ∧
    (after .indexPulse (synced 11900 s)).chain.lastSlip = some (-100) ∧
    (after .indexPulse (synced 11900 s)).chain.synced = true ∧
    (after .indexPulse (synced 101 s)).chain.synced = false ∧ (after .indexPulse (synced 101 s)).chain.p = 101 ∧
    (after .indexPulse (rolling 1 1 (atChain .running (synced 101 s)))).chain.state =
      .halted ⟨.slip, none, .running, 101, false, some 64800⟩ ∧
    (after .indexPulse (atChain .running (free (synced 100 s)))).chain.state = .running := by decide +kernel

/-- Shutter 0 braked at its clear line with no cabin at its opening. -/
def braked : State := unit 0 (.held true) (input 0 ⟨false, false, false, false⟩ s)

theorem witness_WindowAndDwell :
    (after .speedWindowComplete (atChain (.stopping .park) s)).chain.parked = true ∧
    (after .speedWindowComplete (atChain (.stopping .plain) s)).chain.state = .stopped ∧
    (after .speedWindowComplete { s with chain := { s.chain with window := 1 } }).chain.restMs = 0 ∧
    (after .speedWindowComplete s).chain.restMs = 65535 ∧
    (free s).doorwaysFree ∧ (free s).sparesChain ∧
    (after .speedWindowComplete (atChain .running (free s))).chain.restMs = 0 ∧
    (atChain .running s).chain.moving = true ∧ s.chain.moving = false ∧ braked.storeRests ∧
    (braked.openingStatus 0).present = true ∧
    (after .stepOffDwellElapsed { braked with chain := { braked.chain with restMs := 0 } }).unit 0 =
      stands (.final 1500) ∧
    ({ braked with store := State.reset.store }.openingStatus 0).present = false := by decide +kernel

/-- R23: n_prev = 38 and n_last = 37 give 150 pulses per second; backward motion gives 0. -/
theorem witness_ChainSpeed :
    (rolling 38 37 s).chain.speed = 150 ∧ (rolling 2047 2047 s).chain.speed = 8188 ∧ (rolling (-1) 1 s).chain.speed = 0 ∧
    (after .speedWindowComplete { s with chain := { s.chain with window := 38 } }).chain.speed ≠ s.chain.speed := by
  decide +kernel

theorem witness_HaltEvents :
    s.chain.driveOk = true ∧ (after (.driveOkChange true) s) = s ∧
    (after (.driveOkChange false) (rolling 0 1 (atChain .running s))).chain.state =
      .halted ⟨.drive, none, .running, 0, false, some 64800⟩ ∧
    (after (.driveOkChange false) s).chain.state = .stopped ∧
    (after .syncRunLimit s) = s ∧ (after .syncRunLimit (atChain (.syncRun 15000) s)).chain.state.phase = .halted ∧
    (after .clearOutComplete s) = s ∧
    (after .clearOutComplete (rolling 1 1 (atChain (.clearOut 12000) (free (synced 2799 s))))).chain.state = .parking ∧
    (free s).doorwaysFree ∧ (free s).sparesChain := by decide +kernel

/-! ### Boarding clearance -/

theorem witness_RunStaysGuarded :
    s.runGuarded ∧ (atChain .running s).runGuarded ∧
    ∃ t, step { atChain .running s with pending := [.chainStop 1#8] } = .next t :=
  ⟨by decide, by decide, _, rfl⟩

theorem witness_FinalOnlyWhenClear :
    braked.unit 0 = stands (.held true) ∧
    (after .stepOffDwellElapsed { braked with chain := { braked.chain with restMs := 0 } }).unit 0 =
      stands (.final 1500) := by decide +kernel

/-- Section 3.1: with d = 290 and v = 150, t = 1,933 ms. Opening 0 is at 400 with half-width 60, so its window begins at 340 and
the cabin whose floor is at 50 is 290 away; at 340 and at 460 the opening is occupied, at 461 it is not. -/
theorem witness_EntryDistance :
    s.unconfigured = false ∧ s.store.tables.landings[0]?.join = some ⟨400, 8000⟩ ∧
    (rolling 38 37 (synced 50 s)).openingStatus 0 = ⟨true, none, some ⟨290, 0, 1933⟩⟩ ∧
    ((synced 340 s).openingStatus 0).occupant = some 0 ∧ ((synced 460 s).openingStatus 0).occupant = some 0 ∧
    ((synced 461 s).openingStatus 0).approach = some ⟨5879, 1, 65535⟩ := by decide +kernel

/-! ### Fire shutters -/

def down : Inputs := ⟨false, true, false, false⟩
def between : Inputs := ⟨false, false, true, false⟩
def edged : Inputs := ⟨false, false, true, true⟩
def obstructed (k : Nat) (x : ShutterState) (s : State) : State :=
  { s with shutters := { s.shutters with units := s.shutters.units.set 1 (some ⟨x, k, false, false, false⟩) } }

/-- T1 = 2,000 ms gives a phase limit of 3,000 ms (R60); the third obstruction faults (R65). -/
theorem witness_LowerOrders :
    s.takes ∧ s.storeRests ∧ s.record 1 = some ⟨1, .plain, 2000, 60, 0⟩ ∧ s.unit 1 = stands .isOpen ∧
    1 ∉ s.shutters.raiseQueue ∧ lowerOrder 1 (unit 1 .closed s) = unit 1 .closed s ∧
    (after (.shutterLower 1#8 1#8) s).unit 1 = stands (.dropping 3000) ∧
    (after (.shutterLower 1#8 1#8) (input 1 down s)).unit 1 = stands .closed ∧
    (after (.shutterLower 1#8 0#8) (input 0 ⟨false, false, false, false⟩ (unit 0 (.raising 5) s))).unit 0 ≠ none ∧
    (lowerOrder 0 (input 0 ⟨false, false, false, false⟩ s)).unit 0 = stands (.held false) ∧
    ((after (.shutterLower 1#8 1#8) (input 1 edged (obstructed 1 (.raising 5) s))).unit 1).map Shutter.obstructions =
      some 2 ∧
    ((after (.shutterLower 1#8 1#8) (input 1 edged (obstructed 2 (.raising 5) s))).unit 1).map Shutter.state =
      some (.fault .obstructed 0) ∧
    (lowerOrder 1 { unit 1 .raiseWait s with shutters := { (unit 1 .raiseWait s).shutters with
      raiseQueue := [1] } }).shutters.raiseQueue = [] ∧
    reply (.shutterLower 1#8 32#8) s = [4#8] ∧ reply (.shutterLower 1#8 31#8) s = [8#8] := by decide +kernel

/-- Four shutters RAISING draw the whole motor supply (R72). -/
def drawn : State :=
  { s with
    store := { s.store with tables := { tables with shutters := (fill 32 none
      (List.replicate 5 (some ⟨1, .plain, 2000, 60, 0⟩))) } }
    shutters := { s.shutters with
      inputs := List.replicate 32 between
      units := (fill 32 none [stands (.raising 1), stands (.raising 1), stands (.raising 1), stands (.raising 1),
        stands .closed]) } }

theorem witness_RaiseOrders :
    s.takes ∧ s.storeRests ∧ s.shutters.raiseQueue = [] ∧ (s.record 1).isSome = true ∧ s.raisingCount < 4 ∧
    drawn.raisingCount = 4 ∧ drawn.storeRests ∧
    reply (.shutterRaise 1#8 32#8) s = [4#8] ∧ reply (.shutterRaise 1#8 31#8) s = [8#8, 0xFF#8, 0xFF#8] ∧
    reply (.shutterRaise 1#8 1#8) (inFire .evacuate s) = [10#8, 0#8, 0xFF#8] ∧
    reply (.shutterRaise 1#8 1#8) (unit 1 (.held true) s) = [6#8, 2#8, 0xFF#8] ∧
    reply (.shutterRaise 1#8 1#8) (atStore .shutting (unit 1 .closed s)) = [6#8, 5#8, 0xFF#8] ∧
    reply (.shutterRaise 1#8 1#8) (unit 1 (.fault .limitConflict 0) s) = [6#8, 8#8, 0xFF#8] ∧
    (after (.shutterRaise 1#8 1#8) (input 1 between (unit 1 .closed s))).unit 1 = stands (.raising 60000) ∧
    (after (.shutterRaise 1#8 1#8) (unit 1 (.fault .slowDrop 0) s)).unit 1 = stands .isOpen ∧
    (after (.shutterRaise 1#8 4#8) drawn).shutters.raiseQueue = [4] ∧
    (after (.shutterRaise 1#8 4#8) drawn).unit 4 = stands .raiseWait := by decide +kernel

def unread : State :=
  { s with shutters := { s.shutters with inputsRead := false, units := List.replicate 32 none } }

theorem witness_ShutterInputs :
    s.shutters.inputsRead = true ∧ unread.shutters.inputsRead = false ∧ unread.storeRests ∧
    unread.shutters.raiseQueue = [] ∧ unread.shutters.units.length = 32 ∧ unread.record 2 ≠ none ∧
    (after (.shutterFirstReading 1#32 2#32 0#32 0#32) unread).unit 1 = stands .closed ∧
    (after (.shutterFirstReading 3#32 6#32 0#32 0#32) unread).unit 1 = stands (.fault .limitConflict 0) ∧
    (after (.shutterFirstReading 3#32 0#32 0#32 0#32) unread).unit 2 = stands (.fault .positionUnknown 0) ∧
    (after (.shutterInputChange 31 .top false) s) = s ∧ s.shutters.inputs.length = 32 ∧
    (after (.shutterInputChange 1 .bottom true) (unit 1 (.dropping 1) (input 1 between s))).unit 1 = stands .closed ∧
    (after (.shutterInputChange 0 .clear false) (unit 0 (.dropping 1) (input 0 between s))).unit 0 =
      stands (.final 1500) ∧
    (after (.shutterInputChange 0 .clear false) (unit 0 (.dropping 1) (input 0 between (synced 400 { s with
      chain := { s.chain with restMs := 9999 } })))).unit 0 = stands (.held true) ∧
    ((after (.shutterInputChange 1 .edge true) (obstructed 1 (.dropping 1) (input 1 between s))).unit 1) =
      some ⟨.paused .obstruction .dropping 0, 2, false, false, false⟩ ∧
    ((after (.shutterInputChange 1 .edge true) (obstructed 2 (.final 1) (input 1 between s))).unit 1) =
      some ⟨.fault .obstructed 0, 3, false, false, false⟩ ∧
    (after (.shutterInputChange 1 .edge true) (unit 1 (.paused .obstruction .final 2999) (input 1 between s))).unit 1 =
      stands (.paused .obstruction .final 0) ∧
    (after (.shutterInputChange 1 .edge true) (unit 1 (.fault .obstructed 29999) (input 1 between s))).unit 1 =
      stands (.fault .obstructed 0) ∧
    (after (.shutterInputChange 1 .top true) (unit 1 (.raising 1) (input 1 between s))).unit 1 = stands .isOpen ∧
    (after (.shutterInputChange 1 .edge true) s).unit 1 = stands .isOpen := by decide +kernel

/-- Shutter 1 in FAULT OBSTRUCTED, ordered as the origin's in EVACUATE on floor 0. -/
def retried : State :=
  { inFire .evacuate (input 1 between s) with
    fire := { (inFire .evacuate s).fire with origin := some 0 }
    shutters := { (input 1 between s).shutters with
      units := s.shutters.units.set 1 (some ⟨.fault .obstructed 30000, 3, true, false, true⟩) } }

theorem witness_ShutterTimes :
    s.record 31 = none ∧ after (.slowDrop 31) s = s ∧ s.storeRests ∧ 1 ∉ s.shutters.raiseQueue ∧
    after (.slowDrop 1) s = s ∧ (after (.slowDrop 1) (unit 1 (.dropping 0) s)).unit 1 = stands (.fault .slowDrop 0) ∧
    after (.slowFinal 1) s = s ∧ (after (.slowFinal 0) (unit 0 (.final 0) s)).unit 0 = stands (.fault .slowFinal 0) ∧
    after (.raiseTimeout 1) s = s ∧
    (after (.raiseTimeout 1) (unit 1 (.raising 0) s)).unit 1 = stands (.fault .raiseTimeout 0) ∧
    after (.obstructionResume 1) s = s ∧ s.chain.state = .stopped ∧ s.conflictAt 1 = false ∧
    (after (.obstructionResume 1) (unit 1 (.paused .obstruction .dropping 3000) (input 1 between s))).unit 1 =
      stands (.dropping 3000) ∧
    (after (.obstructionResume 0) (unit 0 (.paused .obstruction .final 3000) (input 0 ⟨false, false, false, false⟩ s))).unit
      0 = stands (.final 1500) ∧
    after (.obstructedRetry 1) s = s ∧ retried.fire.origin = some (1 / 4) ∧ retried.storeRests ∧
    (after (.obstructedRetry 1) retried).unit 1 = some ⟨.dropping 3000, 0, true, false, true⟩ := by decide +kernel

/-! ### Fire stages -/

/-- The demo store with the chain RUNNING above closed doorways, a call at the floor, a run of slot 3 in hand and slot 4
waiting to repeat, in ALERT with its escalation timer run out. -/
def alerted : State :=
  let s := atChain .running (free (inFire .alert s))
  let run : Run := ⟨.slot 3, ⟨1, [1], 1#16, 2, 7⟩, 0, 0, 0, some 64000, none⟩
  { s with
    store := { s.store with timing := { s.store.timing with groupDelay := 0 } }
    fire := { s.fire with escalation := some 0 }
    calls := { s.calls with floor := { s.calls.floor with calls := [⟨8, none, false, false, 0, none⟩] } }
    announcer := { s.announcer with
      player := .chime run 0
      slots := (s.announcer.slots.set 3 (.playing ⟨run.script, 0, some 10⟩ 0)).set 4
        (.repeatWait ⟨run.script, 1, some 10⟩ 1 5) } }

def evacuated : State := after .escalationTimeout alerted

/-- ALERT entry lowers and fire-orders shutter 2 in the stock room, defers the run in hand and makes script A due (R74,
R84, R139); EVACUATE entry by either way lowers shutter 2 with a group delay of 0, leaves shutter 1 on the stair OPEN, and with
a call standing takes the store to CLEARING (R75, R87, R171). -/
theorem witness_FireLines_orders :
    s.fire.alertIn ≠ some .active ∧ s.fire.evacIn ≠ some .active ∧ s.storeRests ∧ s.announcer.player = .idle ∧
    (after (.fireLineReadingChange .alertIn .active) s).unit 2 = some ⟨.dropping 3000, 0, true, false, false⟩ ∧
    (after (.fireLineReadingChange .alertIn .active) s).unit 1 = stands .isOpen ∧
    (after (.fireLineReadingChange .alertIn .active) s).announcer.player =
      .chime ⟨.scriptA, ⟨3, [1], 0x000F#16, 0, 90⟩, 0, 0, 0, some 64800, none⟩ 0 ∧
    evacuated.unit 2 = some ⟨.dropping 3000, 0, false, true, false⟩ ∧ evacuated.unit 1 = stands .isOpen ∧
    evacuated.day.state = .clearing ∧ evacuated.day.last = ⟨some .trading, .fire, some 64800⟩ ∧
    evacuated.chain.state = .clearOut 0 ∧ evacuated.announcer.slots = List.replicate 9 .free ∧
    evacuated.announcer.log.map (fun r => (r.source, r.outcome)) = [(.slot 3, .preempted), (.slot 4, .withdrawn)] ∧
    evacuated.announcer.player = .chime ⟨.scriptE, ⟨1, [1, 1], 0xFFFF#16, 0, 91⟩, 0, 0, 0, some 64800, none⟩ 0 := by
  decide +kernel

theorem witness_FireLines :
    s.unconfigured = false ∧ s.fire.startUp = false ∧ s.fire.reading .alertIn = some .normal ∧
    (after (.fireLineReadingChange .alertIn .active) s).fire.state = .alert ∧
    (after (.fireLineReadingChange .alertIn .active) s).fire.entry = some ⟨.alertLine, some 64800⟩ ∧
    (after (.fireLineReadingChange .evacIn .active) s).fire.schedule = some ⟨10, 1, 10000⟩ ∧
    (after (.fireLineReadingChange .alertIn .active) (inFire .evacuate s)).fire.state = .evacuate ∧
    (after (.fireLineReadingChange .evacIn .shortFault) s).fire.evacFault = some ⟨true, some 64800⟩ ∧
    ((after (.fireLineReadingChange .evacIn .shortFault) s).notice 1).latched.isSome = true ∧
    State.reset.unconfigured = true ∧ State.reset.fire.evacIn = none ∧
    (after (.fireLineReadingChange .evacIn .active) State.reset).shutters.failSafe = true ∧
    (after (.fireLineReadingChange .evacIn .active) State.reset).fire.state = .normal := by decide +kernel

def starting : State := { s with fire := { Fire.start with alertIn := some .active } }

theorem witness_StartUpRead :
    starting.fire.startUp = true ∧ starting.fire.reading .evacIn = none ∧ s.fire.startUp = false ∧
    (after (.fireLineReadingChange .evacIn .normal) starting).fire.state = .alert ∧
    (after (.fireLineReadingChange .evacIn .active) starting).fire.state = .evacuate ∧
    (after (.fireLineReadingChange .evacIn .active) starting).fire.entry = some ⟨.startUp, some 64800⟩ ∧
    (after (.startupReadTimeout .evacIn) starting).fire.evacIn = some .openFault ∧
    (after (.fireLineReadingChange .alertIn .normal) { s with fire := Fire.start }).fire.startUp = true ∧
    (after (.fireLineReadingChange .evacIn .normal) { s with fire := { Fire.start with
      alertIn := some .normal, state := .alert } }).fire.state = .normal ∧
    (after (.fireLineReadingChange .evacIn .normal) { s with fire := { Fire.start with
      alertIn := some .normal, entry := some ⟨.reset, none⟩ } }).fire.entry = some ⟨.startUp, some 64800⟩ := by
  decide +kernel

def evacuating (next : Nat) : State :=
  { s with fire := { s.fire with state := .evacuate, schedule := some ⟨10, next, 0⟩ } }

theorem witness_FireTimersAndReports :
    s.takes ∧ reply (.fireReport 1#8 8#8) s = [3#8] ∧ reply (.fireReport 1#8 7#8) starting = [7#8] ∧
    reply (.fireReport 1#8 7#8) s = [6#8] ∧ reply (.fireReport 1#8 7#8) (inFire .alert s) = [0#8, 7#8] ∧
    ((after (.fireReport 1#8 0#8) (inFire .alert s)).unit 1).map (fun x => (x.fireOrdered, x.state.phase)) =
      some (true, .dropping) ∧
    (after (.fireReport 1#8 0#8) (inFire .alert s)).unit 2 = stands .isOpen ∧
    reply (.fireReset 1#8) starting = [7#8] ∧ reply (.fireReset 1#8) s = [0#8] ∧
    reply (.fireReset 1#8) (inFire .alert starting) = [7#8] ∧
    reply (.fireReset 1#8) { inFire .alert s with fire := { (inFire .alert s).fire with alertIn := some .active } } =
      [7#8] ∧
    (after (.fireReset 1#8) (inFire .alert s)).fire.entry = some ⟨.reset, some 64800⟩ ∧
    s.fire.state ≠ .alert ∧
    (after .escalationTimeout { inFire .alert s with fire := { (inFire .alert s).fire with escalation := some 0 } }).fire.state
      = .evacuate ∧
    (evacuating 4).fire.schedule = some ⟨10, 4, 0⟩ ∧ (after .evacGroupDue (evacuating 3)).fire.schedule = some ⟨10, 4, 0⟩ ∧
    (evacuating 1).shutters.raiseQueue = [] ∧
    ((after .evacGroupDue (evacuating 1)).unit 0).map (fun x => x.state.phase) = some .dropping := by decide +kernel

/-! ### Staff calls -/

def loop (counter : Nat) (recovery : Option Nat) : State :=
  { s with intake := { s.intake with counter := counter, recovery := recovery } }
def goodReply (b : Byte) : Instr := .pollReplyEnd [13#8, b, 0#8 - 13#8 - b] true
def badReply : Instr := .pollReplyEnd [13#8] true

/-- A poll of station 13 with lamps 0 and 2 is 0x8D, 0x05 and 0x6E, whose sum is 0x100 (R96). -/
theorem test_poll_bytes : (⟨13, 5#4⟩ : Poll).bytes = [0x8D#8, 0x05#8, 0x6E#8] := by decide

/-- Section 6.4: 88, then 96, 247 and 255 by corrupt replies, then LOOP_OFF; the 128th good reply brings 0 back (R99 to R101);
the third missing reply makes a station ABSENT (R98); after station 13 comes 20, and after 20 comes 13 (R94). -/
theorem witness_PollOutcomes :
    s.intake.poll = some ⟨13, 0#4⟩ ∧ s.intake.discarded ≤ 65535 ∧ State.reset.intake.poll = none ∧
    (after badReply (loop 88 none)).intake.counter = 96 ∧ (after badReply (loop 88 none)).intake.loopState = .degraded ∧
    (after badReply (loop 247 none)).intake.counter = 255 ∧ (after badReply (loop 247 none)).intake.recovery = none ∧
    (after badReply (loop 248 none)).intake.recovery = some 0 ∧ (after badReply (loop 255 (some 100))).intake.recovery =
      some 0 ∧
    (after (goodReply 0#8) (loop 96 none)).intake.loopState = .active ∧
    (after (goodReply 0x10#8) (loop 255 (some 0))).intake.discarded = 1 ∧
    (after (goodReply 0xF0#8) (loop 255 (some 127))).intake.counter = 0 ∧
    (after (goodReply 0xF0#8) (loop 255 (some 127))).intake.recovery = none ∧
    (after (goodReply 0xF0#8) (loop 255 (some 126))).intake.recovery = some 127 ∧
    (after .pollReplyTimeout s).intake.poll = some ⟨20, 0#4⟩ ∧
    (after .pollReplyTimeout { s with intake := { s.intake with poll := some ⟨20, 0#4⟩ } }).intake.poll =
      some ⟨13, 0#4⟩ ∧
    ((after .pollReplyTimeout { s with intake := { s.intake with
      stations := s.intake.stations.set 13 { Station.start with missed := 2 } } }).intake.station 13).present = false := by
  decide +kernel

def queued (q : QueueName) (calls : List Call) (s : State) : State :=
  setQueue q { s.queue q with calls := calls, timer := some 30000 } s
def call (code : Nat) (urgent : Bool) : Call := ⟨code, none, urgent, false, 0, some 60000⟩

/-- Section 6.6: with 52 in COUNTING and 54 in FLOOR, station 13's lamps 0 and 2 are lit. -/
theorem witness_LampsShowQueues :
    (after .pollReplyTimeout (queued .counting [call 52 false] (queued .floor [call 54 true] { s with
      intake := { s.intake with poll := some ⟨20, 0#4⟩ } }))).intake.poll = some ⟨13, 5#4⟩ := by decide +kernel

/-- The press rows of the table of section 6.6: store state, fire state and code, with the filter index, the action decided and
the action taken. -/
theorem test_filter_list :
    s.decidePress 52 = (some 2, .toCounting) ∧ s.decidePress 54 = (some 3, .urgentFloor) ∧
    s.decidePress 51 = (none, .toFloor) ∧ s.decidePress 253 = (some 1, .urgentCounting) ∧
    (inFire .evacuate s).taken .toCounting = .reject ∧ (inFire .evacuate s).taken .toFloor = .reject ∧
    (inFire .evacuate s).taken .urgentFloor = .urgentFloor ∧ (atStore .shut s).decidePress 52 = (none, .reject) ∧
    (atStore .shut s).decidePress 252 = (some 1, .urgentCounting) ∧
    (atStore .shut s).decidePress 55 = (some 0, .chainStop) := by decide +kernel

theorem witness_PressFiled :
    s.intake.poll = some ⟨13, 0#4⟩ ∧ s.intake.recovery = none ∧ (13#8 : Byte).toNat = 13 ∧
    13#8 + 0x50#8 + (0#8 - 13#8 - 0x50#8) = 0#8 ∧
    (after (goodReply 0x50#8) s).calls.counting.calls = [⟨52, some 2, false, false, 0, some 64800⟩] ∧
    (after (goodReply 0x50#8) s).calls.floor.calls = [⟨54, some 3, true, false, 0, some 64800⟩] ∧
    (after (goodReply 0x50#8) s).intake.accepted = 2 ∧
    (after (goodReply 0x50#8) s).intake.lastPress =
      some ⟨13, 2, 54, some 3, .urgentFloor, .urgentFloor, some 64800⟩ ∧
    (after (goodReply 0x88#8) s).chain.state =
      .halted ⟨.stopPush, some 55, .stopped, 0, false, some 64800⟩ ∧
    (after (goodReply 0x10#8) (inFire .evacuate s)).intake.rejected = 1 := by decide +kernel

def eight : List Call := (List.range 8).map fun k => call (4 * k) false
def overwriting : State := { s with store := { s.store with timing := { Timing.default with overwriteCounting := true } } }

theorem witness_QueueArrival :
    (s.queue .counting).calls = [] ∧ eight.length = 8 ∧ (∀ r ∈ eight, r.code ≠ 54) ∧
    s.overwrites .counting = false ∧ overwriting.overwrites .counting = true ∧
    ((arriveCall .counting (call 0 true) false (queued .counting eight s)).calls.counting.calls[0]?).map Call.urgent =
      some true ∧
    ((arriveCall .counting ⟨28, none, false, false, 0, none⟩ true (queued .counting [⟨28, none, false, false, 15, none⟩]
      s)).calls.counting.calls[0]?) = some ⟨28, none, false, true, 15, none⟩ ∧
    (arriveCall .counting (call 54 false) false s).calls.counting.calls = [call 54 false] ∧
    (arriveCall .counting (call 54 false) false (queued .counting eight s)).calls.counting.lost = 1 ∧
    (arriveCall .counting (call 54 false) false (queued .counting eight overwriting)).calls.counting.head = 1 ∧
    ((arriveCall .counting (call 54 false) false (queued .counting eight overwriting)).notice 8).latched =
      some ⟨[0#8, 0#8, 1#8], 1⟩ := by decide +kernel

theorem witness_AckAndEscalate :
    s.takes ∧ (s.queue .counting).head < 8 ∧ reply (.ackCalls 1#8 2#8 0#8 none) s = [4#8] ∧
    reply (.ackCalls 1#8 0#8 8#8 none) s = [4#8] ∧ reply (.ackCalls 1#8 0#8 0#8 none) s = [4#8] ∧
    reply (.ackCalls 1#8 0#8 7#8 (some 27#8)) (queued .counting eight s) = [3#8] ∧
    reply (.ackCalls 1#8 0#8 7#8 (some 28#8)) (queued .counting eight s) = [0#8, 8#8, 0#8, 0#8] ∧
    (after (.ackCalls 1#8 0#8 7#8 none) (queued .counting eight s)).calls.counting.timer = none ∧
    reply (.ackCalls 1#8 0#8 0#8 none) (queued .counting eight s) = [0#8, 1#8, 1#8, 7#8] ∧
    after (.localAcknowledge .counting) s = s ∧
    (after (.localAcknowledge .counting) (queued .counting eight s)).calls.counting.localAcks = 1 ∧
    (after (.callEscalationTimeout .counting) s).calls.floor.calls = [] ∧
    (after (.callEscalationTimeout .counting) (queued .counting [call 52 false] s)).calls.floor.calls =
      [⟨52, none, false, true, 0, some 60000⟩] ∧
    (after (.callEscalationTimeout .counting) (queued .counting [call 52 false] s)).calls.counting.calls =
      [call 52 false] := by decide +kernel

def bell (p : Pattern) (calls : List Call) (since : Option Nat) : State :=
  setQueue .counting { s.calls.counting with pattern := p, calls := calls, sinceGroup := since } s
def speaking (groups : BitVec 16) (s : State) : State :=
  { s with announcer := { s.announcer with player := .chime ⟨.scriptA, ⟨1, [1], groups, 0, 0⟩, 0, 0, 0, none, none⟩ 0 } }

/-- Section 7: code 54 is station 13's button 2, struck as 2, 6 and 3, in 800, 2,400 and 1,200 ms. -/
theorem test_bell_code :
    (strikes 54 1, strikes 54 2, strikes 54 3) = (2, 6, 3) ∧ (groupMs 54 1, groupMs 54 2, groupMs 54 3) = (800, 2400, 1200) := by
  decide

/-- Each strike of a group is on for 150 ms and off for 250 ms (R120): group 1 of code 54 has two, 800 ms in all. -/
theorem test_striker :
    [0, 149, 150, 399, 400, 549, 550, 800].map (fun ms => ({ Queue.start with
      pattern := .striking 54 1 ms false } : Queue).striker) = [true, true, false, false, true, true, false, false] ∧
    Queue.start.striker = false := by decide

/-- The COUNTING annunciator stands in zone 0, which has hush and speaker group 3. -/
theorem witness_Annunciators :
    (s.queue .counting).pattern = .silent ∧ (s.zone 0).hush = true ∧ (s.zone 0).group = 3 ∧ s.storeRests ∧
    s.unconfigured = false ∧
    ((after (.annunciatorGroupEnd .counting) (bell (.striking 54 2 0 false) [call 54 false] none)).queue
      .counting).pattern = .groupGap ⟨some 54, 3⟩ ∧
    ((after (.annunciatorGroupEnd .counting) (bell (.striking 54 3 0 false) [call 54 false] none)).queue
      .counting).pattern = .patternWait ⟨some 54, 1⟩ ∧
    ((after (.annunciatorGroupEnd .counting) (bell (.striking 54 3 0 false) [call 54 true] none)).queue
      .counting).pattern = .groupGap ⟨some 54, 1⟩ ∧
    ((after (.annunciatorGroupEnd .counting) (bell (.striking 54 3 0 true) [call 8 true] none)).queue
      .counting).pattern = .groupGap ⟨none, 1⟩ ∧
    ((after (.annunciatorGroupEnd .counting) (bell (.striking 54 1 0 true) [] none)).queue .counting).pattern =
      .silent ∧
    ((after (.annunciatorGroupDue .counting) (bell (.groupGap ⟨none, 1⟩) [call 54 false] (some 0))).queue
      .counting).pattern = .striking 54 1 0 false ∧
    ((after (.annunciatorGroupDue .counting) (speaking 0x0008#16 (bell (.patternWait ⟨some 54, 1⟩) [call 54 false]
      (some 0)))).queue .counting).pattern = .hushWait ⟨some 54, 1⟩ ∧
    ((after (.annunciatorGroupDue .counting) (speaking 0x0008#16 (bell (.groupGap ⟨some 54, 3⟩) [call 54 true]
      (some 0)))).queue .counting).pattern = .striking 54 3 0 false ∧
    ((after (.localAcknowledge .counting) (bell (.striking 54 1 0 false) [call 54 false] none)).queue .counting).pattern =
      .striking 54 1 0 true ∧
    ((after (.localAcknowledge .counting) (bell (.patternWait ⟨some 54, 1⟩) [call 54 false, call 8 false]
      (some 999))).queue .counting).pattern = .groupGap ⟨none, 1⟩ ∧
    ((after (.localAcknowledge .counting) (bell (.groupGap ⟨some 54, 2⟩) [call 54 false] (some 0))).queue
      .counting).pattern = .silent := by decide +kernel

/-! ### Announcements -/

def post (start : BitVec 24) : PostFields := ⟨scriptFields, 9#8, 9#16, start⟩
def playing (p : Player) (s : State) : State := { s with announcer := { s.announcer with player := p } }
def slot (n : Nat) (x : Slot) (s : State) : State :=
  { s with announcer := { s.announcer with slots := s.announcer.slots.set n x } }
def script : Script := ⟨7, [1], 1#16, 7, 255⟩
def phrase1 : Phrase := ⟨0, 24000⟩
def run (n : Nat) (phrases : List Nat) (e : Option EndRequest) : Run :=
  ⟨.slot n, { script with phrases := phrases }, 0, 0, 0, some 64000, e⟩
def plays (n : Nat) (p : Player) (s : State) : State := playing p (slot n (.playing ⟨script, 1, some 300⟩ 0) s)

theorem witness_PostAndCancel :
    s.takes ∧ s.storeRests ∧ s.announcer.slots.length = 9 ∧ s.announcer.player = .idle ∧ s.fire.state = .normal ∧
    reply (.postAnnouncement 1#8 8#8 (post 0xFFFFFF#24)) s = [4#8] ∧
    reply (.postAnnouncement 1#8 7#8 (post 86400#24)) s = [3#8] ∧
    reply (.postAnnouncement 1#8 7#8 { post 0#24 with repeats := 10#8 }) s = [3#8] ∧
    reply (.postAnnouncement 1#8 7#8 (post 86399#24)) (inFire .evacuate s) = [10#8] ∧
    reply (.postAnnouncement 1#8 7#8 (post 86399#24)) (atStore .shut s) = [6#8] ∧
    reply (.postAnnouncement 1#8 7#8 (post 0#24)) { s with day := { s.day with clock := none } } = [11#8] ∧
    reply (.postAnnouncement 1#8 7#8 (post 0#24)) (slot 7 (.pending ⟨script, 0, some 10⟩ 0 none) s) = [7#8] ∧
    reply (.postAnnouncement 1#8 7#8 (post 86399#24)) s =
      [0#8, 7#8, 7#8, 255#8, 0#8, 1#8, 1#8, 1#8, 9#8, 0#8, 10#8, 1#8, 0x51#8, 0x7F#8, 1#8] ∧
    (after (.postAnnouncement 1#8 7#8 (post 0xFFFFFF#24)) s).announcer.player =
      .chime ⟨.slot 7, script, 0, 0, 0, some 64800, none⟩ 0 ∧
    (after (.postAnnouncement 1#8 7#8 (post 64800#24)) (playing (.gap 1) s)).slot 7 =
      .pending ⟨script, 9, some 10⟩ 0 none ∧
    reply (.cancelAnnouncement 1#8 9#8) s = [4#8] ∧ reply (.cancelAnnouncement 1#8 8#8) s = [8#8] ∧
    reply (.cancelAnnouncement 1#8 7#8) (playing (.gap 1) (slot 7 (.repeatWait ⟨script, 1, some 10⟩ 1 5) s)) = [0#8, 0#8] ∧
    reply (.cancelAnnouncement 1#8 8#8) (plays 8 (.chime (run 8 [1] none) 0) s) = [0#8, 1#8] ∧
    reply (.cancelAnnouncement 1#8 8#8) (plays 8 (.chime (run 8 [1] (some .supersede)) 0) s) = [0#8, 3#8] ∧
    reply (.cancelAnnouncement 1#8 0#8) (plays 0 (.phrase (run 0 [1, 1] none) 0 phrase1 5) s) = [0#8, 1#8] ∧
    reply (.cancelAnnouncement 1#8 0#8) (plays 0 (.phrase (run 0 [1, 1] none) 1 phrase1 5) s) = [0#8, 2#8] := by decide +kernel

/-- Phrase 1 of 24,000 bytes lasts 3,000 ms (section 8.9); phrase 2 of 7 bytes lasts 0 ms and phrase 0 is missing (R133). -/
theorem test_phrases :
    (after .chimeEnd (plays 0 (.chime (run 0 [1] none) 4200) s)).announcer.player = .phrase (run 0 [1] none) 0 phrase1 3000 ∧
    ((after .chimeEnd (plays 0 (.chime (run 0 [2, 0] none) 4200) s)).announcer.log.map fun r => (r.played, r.skipped)) =
      [(1, 1)] := by decide +kernel

theorem witness_PlayerEvents :
    s.storeRests ∧ s.store.timing.gap = 1000 ∧ s.announcer.log.length < 16 ∧
    s.store.tables.phrases[1]? = some ⟨0, 24000⟩ ∧
    (after .phraseEnd (plays 0 (.phrase (run 0 [1, 1] none) 0 phrase1 0) s)).announcer.player =
      .phrase { run 0 [1, 1] none with played := 1 } 1 phrase1 3000 ∧
    (after .phraseEnd (plays 0 (.phrase (run 0 [1] none) 0 phrase1 0) s)).slot 0 = .repeatWait ⟨script, 1, some 300⟩ 1 300000 ∧
    (after .phraseEnd (playing (.phrase { run 0 [1] none with source := .scriptE } 0 phrase1 0) (inFire .evacuate
      s))).announcer.timerE = some 30000 ∧
    ((after .chimeEnd (plays 0 (.chime (run 0 [1] (some .cancel)) 0) s)).announcer.log.map LogRec.outcome) =
      [.stoppedAfterPhrase] ∧
    ((after .phraseEnd (plays 0 (.phrase (run 0 [1] (some .cancel)) 0 phrase1 0) s)).announcer.log.map LogRec.outcome) =
      [.completedDespiteCancel] ∧
    (after .phraseEnd (plays 0 (.phrase (run 0 [1, 1] (some .defer)) 0 phrase1 0) s)).slot 0 =
      .pending ⟨script, 1, some 300⟩ 0 none ∧
    (after .phraseEnd { plays 8 (.phrase (run 8 [1] (some .supersede)) 0 phrase1 0) s with announcer :=
      { (plays 8 (.phrase (run 8 [1] (some .supersede)) 0 phrase1 0) s).announcer with waiting := some script } }).slot 8 =
      .pending ⟨script, 0, none⟩ 0 none ∧
    (after .phraseEnd (playing (.phrase { run 0 [1, 1] (some .normal) with source := .scriptA } 1 phrase1 0) s)).announcer.player =
      .gap 1000 ∧
    (after .gapEnd (playing (.gap 0) s)).announcer.player = .idle ∧
    (after .gapEnd (playing (.gap 0) (slot 1 (.pending ⟨script, 0, some 10⟩ 0 none)
      (slot 8 (.pending ⟨{ script with cls := 0 }, 0, none⟩ 0 none) s)))).slot 8 =
      .playing ⟨{ script with cls := 0 }, 0, none⟩ 0 ∧
    (after .gapEnd { playing (.gap 0) (inFire .alert s) with announcer :=
      { (playing (.gap 0) s).announcer with dueA := true } }).announcer.runsA = 1 ∧
    (after .gapEnd { playing (.gap 0) (inFire .evacuate s) with announcer :=
      { (playing (.gap 0) s).announcer with dueE := true, runsE := 9 } }).announcer.runsE = 9 ∧
    (after (.repeatTimeExpiry 7) (playing (.gap 1) (slot 7 (.repeatWait ⟨script, 1, some 10⟩ 1 0) s))).slot 7 =
      .pending ⟨script, 1, some 10⟩ 1 none ∧
    (after .alertRepeatTimeout { playing (.gap 1) (inFire .alert s) with announcer :=
      { (playing (.gap 1) s).announcer with timerA := some 0 } }).announcer.dueA = true ∧
    (after .evacRepeatTimeout { playing (.gap 1) (inFire .evacuate s) with announcer :=
      { (playing (.gap 1) s).announcer with timerE := some 0 } }).announcer.dueE = true ∧
    after .gapEnd s = s ∧ after (.repeatTimeExpiry 0) s = s ∧ after .alertRepeatTimeout s = s ∧
    after .evacRepeatTimeout s = s := by decide +kernel

def logged (n : Nat) : State :=
  { s with announcer := { s.announcer with
      log := (List.range n).map fun k => ⟨.slot k, k, .completed, 0, none, some 64000, 1, 0⟩ } }

theorem witness_LogReadAndAcknowledged :
    s.serves ∧ s.unconfigured = false ∧ State.reset.serves ∧ reply (.readLog 1#8 1#8) State.reset = [9#8] ∧
    reply (.ackLog 1#8 0#8) State.reset = [9#8] ∧ reply (.readLog 1#8 0#8) s = [3#8] ∧
    reply (.readLog 1#8 9#8) s = [3#8] ∧ reply (.readLog 1#8 8#8) s = [0#8, 0#8, 0#8, 0#8, 0#8] ∧
    (reply (.readLog 1#8 8#8) (logged 16)).length = 5 + 8 * 13 ∧ reply (.ackLog 1#8 0#8) s = [4#8] ∧
    reply (.ackLog 1#8 16#8) (logged 16) = [4#8] ∧ reply (.ackLog 1#8 15#8) (logged 16) = [0#8, 16#8, 0#8] ∧
    reply (.ackLog 1#8 0#8) (logged 16) = [0#8, 1#8, 15#8] ∧ (logged 15).announcer.log.length < 16 ∧
    (writeLog ⟨.scriptA, 90, .preempted, 0, none, none, 0, 0⟩ (logged 16)).announcer.overflow = 1 ∧
    Instr.phraseEnd.carries = false ∧ s.store.saving = none ∧ (after (.saveComplete true) (saving s)).announcer.log = [] ∧
    (saving s).unconfigured = false := by decide +kernel

/-! ### The store day -/

def clockAt (x : Nat) (s : State) : State := { s with day := { s.day with clock := some x } }

/-- Section 9.5: with K = 68,400 and offsets 30, 15 and 0 the window runs from 66,600 through 68,400. -/
theorem witness_ClockAndSchedule :
    s.takes ∧ reply (.setTime 1#8 86400#24) s = [3#8] ∧ reply (.setTime 1#8 86399#24) (atStore .closing s) = [6#8] ∧
    (after (.setTime 1#8 86399#24) s).day.clock = some 86399 ∧ after .storeClockTick State.reset = State.reset ∧
    (after .storeClockTick (clockAt 86399 s)).day.clock = some 0 ∧
    reply (.setSchedule 1#8 86400#24 0#24 0#8 0#8) s = [3#8] ∧ freeFlag? 1#8 = some true ∧ s.store.saving = none ∧
    reply (.setSchedule 1#8 0xFFFFFF#24 86399#24 0#8 1#8) (atStore .closing s) = [6#8] ∧
    (after (.setSchedule 1#8 0xFFFFFF#24 86399#24 0#8 1#8) s).day.schedule = ⟨none, some 86399, false, true, true⟩ ∧
    (after (.setWake 1#8 0#8 1#8) s).day.schedule.keyEnable = false ∧
    s.day.schedule.closing = some 68400 ∧ s.day.schedule.planOn = true ∧
    (∀ st, some st ∈ s.store.tables.plan → st.offset ≤ 30) ∧
    (after .storeClockTick (clockAt 66598 s)).day.state = .trading ∧
    (after .storeClockTick (clockAt 66599 s)).day.state = .closing ∧
    (after .storeClockTick (clockAt 66599 s)).day.last = ⟨some .trading, .schedule, some 66600⟩ ∧
    (after (.setTime 1#8 68401#24) s).day.state = .trading ∧
    (after .storeClockTick (clockAt 67499 (atStore .closing s))).day.posted = [15] ∧
    (after .storeClockTick (clockAt 68399 (atStore .closing (queued .counting [call 52 false] s)))).day.state =
      .clearing ∧
    (after .storeClockTick (clockAt 30599 (rolling 1 1 (atStore .shutting s)))).day.wakeTime = true := by
  refine ⟨by decide, by decide +kernel, by decide +kernel, by decide +kernel, by decide +kernel, by decide +kernel,
    by decide +kernel, by decide, by decide, by decide +kernel, by decide +kernel, by decide +kernel, by decide, by decide,
    ?_, by decide +kernel, by decide +kernel, by decide +kernel, by decide +kernel, by decide +kernel,
    by decide +kernel, by decide +kernel⟩
  intro st h
  have all : ∀ x ∈ s.store.tables.plan, (x.all fun y => decide (y.offset ≤ 30)) = true := by decide +kernel
  simpa using all _ h

def planless (s : State) : State := { s with day := { s.day with schedule := { s.day.schedule with planOn := false } } }

theorem witness_OpenAndClose :
    s.takes ∧ reply (.openNow 1#8) (inFire .evacuate s) = [10#8] ∧ reply (.openNow 1#8) (atStore .clearing s) = [6#8] ∧
    (reply (.openNow 1#8) s).take 2 = [0#8, 2#8] ∧
    (after (.openNow 1#8) (planless (atStore .standby s))).day.state = .trading ∧
    (atStore .standby (input 1 down (unit 1 .closed s))).nightClose 1 = true ∧
    (after (.openNow 1#8) (atStore .standby (input 1 down (unit 1 .closed s)))).day.last =
      ⟨some .standby, .openNow, some 64800⟩ ∧
    (after (.openNow 1#8) (atStore .standby (input 1 down (unit 1 .closed s)))).day.openingLeft = some 600000 ∧
    (after (.openNow 1#8) (planless (atStore .shut s))).day.state = .trading ∧
    (after (.openNow 1#8) (rolling 1 1 (atStore .shutting s))).day.wakeOpenNow = true ∧
    reply (.closeNow 1#8) (atStore .waking s) = [6#8] ∧ (reply (.closeNow 1#8) (atStore .shut s)).take 2 = [0#8, 6#8] ∧
    (after (.closeNow 1#8) (queued .floor [call 52 false] s)).day.state = .clearing ∧
    (after (.closeNow 1#8) (queued .floor [call 52 false] s)).day.clearingLeft = some 1200000 ∧
    after .clearingLimitTimeout s = s ∧ (after .clearingLimitTimeout (rolling 1 1 (atStore .clearing s))).day.forced =
      true ∧
    after .openingLimitTimeout s = s ∧
    (after .openingLimitTimeout (planless (atStore .opening s))).day.last =
      ⟨some .opening, .openingLimit, some 64800⟩ := by decide +kernel

/-- WAKING on the key alone. -/
def keyed : State := { atStore .waking s with day := { (atStore .waking s).day with wakeKey := true, key := true } }

/-- Section 9.12: a key released after 1,200 ms returns the store to SHUT with cause KEY_RELEASED; held for 2 s it opens. -/
theorem witness_WatchmanKey :
    s.day.key = false ∧ after (.watchmanKeyChange false) s = s ∧ (after (.watchmanKeyChange true) s).day.wakeKey = false ∧
    (after (.watchmanKeyChange true) (rolling 1 1 (atStore .shutting s))).day.wakeKey = true ∧
    (after (.watchmanKeyChange true) (atStore .shut s)).day.last = ⟨some .shut, .wake, some 64800⟩ ∧
    (after (.watchmanKeyChange false) keyed).day.last = ⟨some .waking, .keyReleased, some 64800⟩ ∧
    after .keyHoldComplete s = s ∧ keyed.day.key = true ∧ keyed.day.schedule.keyEnable = true ∧
    (after .keyHoldComplete (planless keyed)).day.state = .trading := by decide +kernel

/-! ### The whole part -/

theorem reset_shaped : State.reset.shaped :=
  ⟨by decide +kernel, fun _ h => (by cases h), fun _ h => (by cases h), fun _ h => (by cases h), by decide, by decide, by decide,
    by decide, by decide⟩

theorem witness_ShuttersStaySound : State.reset.shaped ∧ State.reset.shuttersSound ∧
    ∃ t, step { State.reset with pending := [.shutterFirstReading 1#32 0#32 0#32 0#32] } = .next t := by
  have none' : ∀ n, State.reset.unit n = none := by
    intro n
    show (List.replicate 32 (none : Option Shutter)).getD n none = none
    simp only [List.getD_eq_getElem?_getD, List.getElem?_replicate]
    split <;> rfl
  refine ⟨reset_shaped, ⟨fun n _ => none' n, fun n h => (by cases h), .nil, fun _ => ⟨rfl, none'⟩, fun _ => rfl,
    fun h => (by cases h), fun h => (by rcases h with h | h | h <;> cases h)⟩, _, rfl⟩

theorem witness_EvacuationSpeaks : (inFire .evacuate s).shaped ∧ (inFire .evacuate s).evacuationSpeaks ∧
    ∃ t, step { inFire .evacuate s with pending := [.closeNow 1#8] } = .next t := by
  refine ⟨⟨by decide +kernel, fun _ h => (by cases h), fun _ h => (by cases h), fun _ h => (by cases h), by decide,
    by decide, by decide, by decide, by decide⟩, fun _ => ⟨rfl, by decide +kernel, fun r hr => ?_⟩, _, rfl⟩
  cases hr

theorem witness_BoundsHold : State.reset.shaped ∧ State.reset.bounded ∧ ∃ t, step State.reset = .next t := by
  refine ⟨reset_shaped, ⟨?_, ?_, by decide, by decide, by decide, fun t h => (by cases h), by decide +kernel, by decide,
    by decide, by decide, fun r h => ?_, fun _ h => (by cases h), fun _ h => (by cases h), fun _ h => (by cases h)⟩, _, rfl⟩
  · decide +kernel
  · decide +kernel
  · exact absurd (List.eq_of_mem_replicate h) (by simp)

theorem witness_EachBlockHasItsCommands :
    Instr.storeClockTick.carries = false ∧ (after .storeClockTick s).day.clock ≠ s.day.clock ∧
    (after (.writePhrase 1#8 0#8 0#24 8#24) s).store ≠ s.store ∧
    (after (.fireLineReadingChange .alertIn .active) s).fire ≠ s.fire ∧
    (after (.indexPulse) s).chain.synced ≠ s.chain.synced ∧
    (after (.armNotices 1#8 1#16) s).link.arms ≠ s.link.arms := by decide +kernel

theorem witness_NoCommandStops : s.pending = [] ∧ ∃ (down : Option Nat → Option Nat) (up : Nat → Nat → Nat),
    (∀ x, down x = x.map (· - 1)) ∧ ∀ limit x, up limit x = if x < limit then x + 1 else x :=
  ⟨rfl, _, _, fun _ => rfl, fun _ _ => rfl⟩

/-- An idle millisecond counts only the times (log entry 2). -/
theorem test_idle_counts_down :
    (idle { s with day := { s.day with clearingLeft := some 5 } }).day.clearingLeft = some 4 ∧
    (idle s).day.clock = s.day.clock := by decide +kernel

end Sys2Proof.Machine.Demo
end

section
/-! SUPPORT. What the moves of every block leave of the speed counts and of the announcement log: `Continues s t` says
that the counts of the speed window stand and that log records are only added after the newest. One lemma for each
operation, up to `settle`, the requests and the events. -/

namespace Sys2Proof.Machine

/-! ### The relation -/

/-- The counts of the last two speed windows (R22), which alone make the chain speed (R23). -/
def State.counts (s : State) : Int × Int := (s.chain.nPrev, s.chain.nLast)

/-- From `s` to `t` the speed counts stand, and log records are only added after the newest. -/
def Continues (s t : State) : Prop := t.counts = s.counts ∧ s.announcer.log <+: t.announcer.log

/-- What an operation of another block than the announcements and the speed windows leaves alone. -/
def State.countsAndAnnouncer (s : State) : (Int × Int) × Announcer := (s.counts, s.announcer)

section
variable {s t u : State}

theorem Continues.refl (s : State) : Continues s s := ⟨rfl, List.prefix_rfl⟩

theorem Continues.trans (h : Continues s t) (h' : Continues t u) : Continues s u :=
  ⟨h'.1.trans h.1, h.2.trans h'.2⟩

/-- Neither the counts nor the log are touched. -/
theorem Continues.same (hc : t.counts = s.counts) (hl : t.announcer.log = s.announcer.log) : Continues s t :=
  ⟨hc, hl ▸ List.prefix_rfl⟩

theorem Continues.of_view (h : t.countsAndAnnouncer = s.countsAndAnnouncer) : Continues s t :=
  .same (congrArg Prod.fst h) (congrArg (fun x => x.2.log) h)

theorem counts_of_chain (h : t.chain = s.chain) : t.counts = s.counts := by rw [State.counts, State.counts, h]

theorem counts_of_steady (h : t.steady = s.steady) : t.counts = s.counts :=
  Prod.ext (steady_nPrev h) (steady_nLast h)

theorem view_of_blocks (hc : t.chain = s.chain) (ha : t.announcer = s.announcer) :
    t.countsAndAnnouncer = s.countsAndAnnouncer := Prod.ext (counts_of_chain hc) ha

theorem Continues.of_blocks (hc : t.chain = s.chain) (ha : t.announcer = s.announcer) : Continues s t :=
  .of_view (view_of_blocks hc ha)

theorem Continues.of_steady (hs : t.steady = s.steady) (ha : t.announcer = s.announcer) : Continues s t :=
  .same (counts_of_steady hs) (congrArg Announcer.log ha)

end

/-- Operations that each continue, one after another along a list. -/
theorem foldl_continues {β : Type} (op : State → β → State) (h : ∀ s b, Continues s (op s b)) (l : List β) (s : State) :
    Continues s (l.foldl op s) := by
  induction l generalizing s with
  | nil => exact .refl s
  | cons b l ih => exact (h s b).trans (ih (op s b))

/-! ### Announcements -/

theorem writeLog_continues (r : LogRec) (s : State) : Continues s (writeLog r s) := by
  unfold writeLog; split
  · exact ⟨rfl, List.prefix_append _ _⟩
  · exact .same rfl rfl

theorem logRun_continues (r : Run) (o : RunOutcome) (s : State) : Continues s (logRun r o s) := writeLog_continues _ s

theorem logUnstarted_continues (src : Source) (x : Script) (n : Nat) (o : RunOutcome) (s : State) :
    Continues s (logUnstarted src x n o s) := writeLog_continues _ s

theorem freeSlot_continues (src : Source) (s : State) : Continues s (freeSlot src s) := by
  cases src <;> exact .same rfl rfl

theorem enterGap_continues (s : State) : Continues s (enterGap s) := .same rfl rfl

theorem completeRun_continues (r : Run) (s : State) : Continues s (completeRun r s) := by
  unfold completeRun
  refine .trans ?_ (enterGap_continues _)
  refine (logRun_continues r .completed s).trans ?_
  split
  · split
    · split <;> exact .same rfl rfl
    · exact .refl _
  · exact .refl _
  · split <;> exact .same rfl rfl

theorem stopRun_continues (r : Run) (e : EndRequest) (last : Bool) (s : State) :
    Continues s (stopRun r e last s) := by
  have logged (o : RunOutcome) : Continues s (freeSlot r.source (logRun r o s)) :=
    (logRun_continues r o s).trans (freeSlot_continues _ _)
  cases e with
  | cancel => exact (logged _).trans (enterGap_continues _)
  | normal => exact (logged _).trans (enterGap_continues _)
  | defer => unfold stopRun; simp only; split <;> (try split) <;> exact .same rfl rfl
  | supersede => unfold stopRun; simp only; split <;> exact (logged _).trans (.same rfl rfl)

theorem playFrom_continues (r : Run) (i : Nat) (s : State) : Continues s (playFrom r i s) := by
  unfold playFrom; split
  · exact .same rfl rfl
  · exact completeRun_continues _ s

theorem startRun_continues (src : Source) (x : Script) (n : Nat) (s : State) : Continues s (startRun src x n s) := by
  unfold startRun; simp only; split
  · exact playFrom_continues _ 0 s
  · exact .same rfl rfl

theorem select_continues {s t : State} (h : select s = some t) : Continues s t := by
  unfold select at h
  split at h
  · cases h
  · split at h
    · cases h; exact .trans (.same rfl rfl) (startRun_continues ..)
    · cases h; exact .trans (.same rfl rfl) (startRun_continues ..)
    · split at h
      · cases h
      · split at h
        · cases h
        · split at h
          · cases h; exact .trans (.same rfl rfl) (startRun_continues ..)
          · cases h

theorem announceLoop_continues (k : Nat) (s : State) : Continues s (announceLoop k s) := by
  induction k generalizing s with
  | zero => exact .refl s
  | succ k ih =>
    unfold announceLoop; split
    · exact .trans (.same rfl rfl) (ih _)
    · split
      · exact .refl s
      · next h => exact (select_continues h).trans (ih _)
    · exact .refl s

theorem requestEnd_continues (e : EndRequest) (s : State) : Continues s (requestEnd e s) := .same rfl rfl

theorem cancelSlot_continues (n : Nat) (s : State) : Continues s (cancelSlot n s).2 := by
  unfold cancelSlot; split
  · exact .refl s
  · exact .trans (.same rfl rfl) (logUnstarted_continues ..)
  · exact .trans (.same rfl rfl) (logUnstarted_continues ..)
  · split
    · exact .refl s
    · exact requestEnd_continues _ s

theorem closingPost_continues (x : Script) (s : State) : Continues s (closingPost x s) := by
  unfold closingPost; split
  · exact .refl s
  · split
    · exact .same rfl rfl
    · exact (logUnstarted_continues ..).trans (.same rfl rfl)
    · exact (logUnstarted_continues ..).trans (.same rfl rfl)
    · refine .trans ?_ (requestEnd_continues _ _)
      split
      · exact (logUnstarted_continues ..).trans (.same rfl rfl)
      · exact .same rfl rfl

theorem announceAlert_continues (s : State) : Continues s (announceAlert s) := by
  unfold announceAlert; simp only; split <;> (try split) <;> exact .same rfl rfl

theorem withdraw_continues (n : Nat) (s : State) : Continues s (withdraw n s) := by
  unfold withdraw; split
  · exact .trans (.same rfl rfl) (logUnstarted_continues ..)
  · exact .trans (.same rfl rfl) (logUnstarted_continues ..)
  · exact .refl s

theorem cutRun_continues (s : State) : Continues s (cutRun s) := by
  have cut (r : Run) : Continues s (setPlayer .idle (freeSlot r.source (logRun r .preempted s))) :=
    ((logRun_continues ..).trans (freeSlot_continues ..)).trans (.same rfl rfl)
  unfold cutRun; split
  · exact .refl s
  · exact .same rfl rfl
  · split
    · exact .refl s
    · exact cut _
  · split
    · exact .refl s
    · exact cut _

theorem dropWaiting_continues (s : State) : Continues s (dropWaiting s) := by
  unfold dropWaiting; split
  · exact .refl s
  · exact .trans (.same rfl rfl) (logUnstarted_continues ..)

theorem announceEvacuate_continues (s : State) : Continues s (announceEvacuate s) := by
  unfold announceEvacuate
  have withdrawn := foldl_continues _ (fun s n => withdraw_continues n s) (List.range 9) (cutRun s)
  have dropped := ((cutRun_continues s).trans withdrawn).trans (dropWaiting_continues _)
  generalize dropWaiting _ = u at dropped ⊢
  exact dropped.trans (.same rfl rfl)

theorem announceNormal_continues (s : State) : Continues s (announceNormal s) := .same rfl rfl

theorem chimeEnd_continues (s : State) : Continues s (chimeEnd s) := by
  unfold chimeEnd; split
  · split
    · exact stopRun_continues ..
    · exact playFrom_continues ..
  · exact .refl s

theorem phraseEnd_continues (s : State) : Continues s (phraseEnd s) := by
  unfold phraseEnd; split
  · simp only; split
    · exact stopRun_continues ..
    · exact playFrom_continues ..
  · exact .refl s

/-! ### The store day, and what follows a change -/

theorem postStep_continues (o : Nat) (s : State) : Continues s (postStep o s) := by
  unfold postStep; split
  · exact .refl s
  · exact closingPost_continues ..

theorem changeStore_continues (new : StoreState) (cause : StoreCause) (s : State) :
    Continues s (changeStore new cause s) := .same rfl rfl

theorem clearOutOrder_continues (s : State) : Continues s (clearOutOrder s) :=
  .of_steady (clearOutOrder_steady s) (clearOutOrder_announcer s)

theorem enterClearing_continues (cause : StoreCause) (s : State) : Continues s (enterClearing cause s) :=
  .trans (.same rfl rfl) (clearOutOrder_continues _)

theorem enterShutting_continues (cause : StoreCause) (forced : Bool) (s : State) :
    Continues s (enterShutting cause forced s) :=
  .of_steady (enterShutting_steady cause forced s) (by simp [enterShutting])

theorem enterOpening_continues (cause : StoreCause) (s : State) : Continues s (enterOpening cause s) :=
  .of_blocks (enterOpening_chain cause s) (by simp [enterOpening])

theorem enterClosing_continues (k x : Nat) (s : State) : Continues s (enterClosing k x s) := by
  have posted : Continues s (match (s.dueOffsets k x).getLast? with
      | none => changeStore .closing .schedule { s with day := { s.day with posted := s.dueOffsets k x } }
      | some o => postStep o
          (changeStore .closing .schedule { s with day := { s.day with posted := s.dueOffsets k x } })) := by
    split
    · exact .same rfl rfl
    · exact .trans (.same rfl rfl) (postStep_continues ..)
  unfold enterClosing; simp only; split
  · exact posted.trans (enterClearing_continues ..)
  · exact posted

theorem closeWindowTest_continues (s : State) : Continues s (closeWindowTest s) := by
  unfold closeWindowTest; split
  · split
    · exact enterClosing_continues ..
    · exact .refl s
  · exact .refl s

theorem enterTrading_continues (cause : StoreCause) (s : State) : Continues s (enterTrading cause s) :=
  .trans (.same rfl rfl) (closeWindowTest_continues _)

theorem wakingStep_continues {s t : State} (h : wakingStep s = some t) : Continues s t := by
  unfold wakingStep at h
  split at h
  · cases h; exact enterOpening_continues ..
  · split at h
    · cases h; exact enterOpening_continues ..
    · split at h
      · split at h
        · cases h; exact .same rfl rfl
        · split at h
          · cases h; exact enterOpening_continues ..
          · cases h
      · cases h; exact .same rfl rfl

theorem dayStep_continues {s t : State} (h : dayStep s = some t) : Continues s t := by
  unfold dayStep at h
  split at h
  case h_1 => split at h <;> cases h; exact enterShutting_continues ..
  case h_2 => split at h <;> cases h; exact changeStore_continues ..
  case h_3 => split at h <;> cases h; exact changeStore_continues ..
  case h_4 => exact wakingStep_continues h
  case h_5 => split at h <;> cases h; exact enterTrading_continues ..
  all_goals cases h

theorem motion_continues (s : State) : Continues s (motion s) := by
  have reacted : Continues s (arbiter (boardReact (chainSettle s))) := .of_steady (by simp) (by simp)
  exact (reacted.trans (announceLoop_continues 32 _)).trans
    (.of_blocks (hushRelease_chain _) (hushRelease_announcer _))

theorem dayLoop_continues (k : Nat) (s : State) : Continues s (dayLoop k s) := by
  induction k generalizing s with
  | zero => exact .refl s
  | succ k ih =>
    unfold dayLoop; split
    · exact .refl s
    · next h => exact ((dayStep_continues h).trans (motion_continues _)).trans (ih _)

/-- Whatever follows a change keeps the speed counts, and adds to the log only. -/
theorem Continues.settle {s t : State} (h : Continues s t) : Continues s (settle t) :=
  (h.trans (motion_continues t)).trans (dayLoop_continues 12 _)

theorem openingReached_continues (x : Nat) (s : State) : Continues s (openingReached x s) := by
  unfold openingReached; split <;> exact .same rfl rfl

theorem closingReached_continues (x : Nat) (s : State) : Continues s (closingReached x s) := by
  unfold closingReached; split
  · next k _ _ =>
    have posted := foldl_continues (fun s o => postStep o { s with day := { s.day with posted := s.day.posted ++ [o] } })
      (fun s o => .trans (.same rfl rfl) (postStep_continues o _))
      ((s.steps.map ClosingStep.offset).filter fun o => dueTime k o = x && !s.day.posted.contains o) s
    simp only; split
    · exact posted.trans (enterClearing_continues ..)
    · exact posted
  · exact .refl s

theorem clockShows_continues (x : Nat) (s : State) : Continues s (clockShows x s) := by
  unfold clockShows
  refine .trans ?_ (closingReached_continues x _)
  refine .trans ?_ (closeWindowTest_continues _)
  refine .trans ?_ (openingReached_continues x _)
  exact .same rfl rfl

theorem clockTick_continues (s : State) : Continues s (clockTick s) := by
  unfold clockTick; split
  · split
    · exact .refl s
    · exact clockShows_continues ..
  · exact .refl s

theorem dayEvacuate_continues (s : State) : Continues s (dayEvacuate s) := by
  unfold dayEvacuate; split
  case h_4 => exact changeStore_continues ..
  case h_5 => exact .refl s
  all_goals exact enterClearing_continues ..

end Sys2Proof.Machine
end

section
/-! SUPPORT. The moves that commands make of their own, block by block, each continuing the counts and the log. -/

namespace Sys2Proof.Machine

/-! ### The chain -/

theorem setChain_view (st : ChainState) (s : State) :
    (setChain st s).countsAndAnnouncer = s.countsAndAnnouncer :=
  Prod.ext (counts_of_steady (setChain_steady st s)) rfl

theorem haltNow_view (cause : HaltCause) (code : Option Nat) (s : State) :
    (haltNow cause code s).countsAndAnnouncer = s.countsAndAnnouncer := setChain_view _ s

theorem stopChain_continues (s : State) : Continues s (stopChain s) :=
  .of_steady (stopChain_steady s) (stopChain_announcer s)

theorem haltIfRunning_continues (cause : HaltCause) (s : State) : Continues s (haltIfRunning cause s) :=
  .of_steady (haltIfRunning_steady cause s) (haltIfRunning_announcer cause s)

theorem stopPush_continues (code : Nat) (s : State) : Continues s (stopPush code s) := by
  unfold stopPush; split
  · exact .same rfl rfl
  · exact .of_view (haltNow_view ..)

theorem workingStep_continues (forward : Bool) (g : Geometry) (s : State) :
    Continues s (workingStep forward g s) := by
  unfold workingStep; split
  · split
    · exact .of_view (haltNow_view ..)
    · exact .same rfl rfl
  · next n _ =>
    simp only
    generalize (if forward then n + 1 else n - 1) = counted
    split
    · exact .of_view (setChain_view ..)
    · exact .same rfl rfl
  · exact .refl s

theorem encoderStep_continues (forward : Bool) (s : State) : Continues s (encoderStep forward s) := by
  unfold encoderStep; simp only; split
  · exact .same rfl rfl
  · exact .trans (.same rfl rfl) (workingStep_continues ..)

theorem indexCheck_continues (s : State) : Continues s (indexCheck s) := by
  unfold indexCheck; split
  · exact .refl s
  · simp only; split
    · split
      · exact .trans (.same rfl rfl) (.of_view (setChain_view ..))
      · exact .same rfl rfl
    · split
      · exact .same rfl rfl
      · exact .trans (.same rfl rfl) (haltIfRunning_continues ..)

/-! ### The shutters -/

theorem putUnit_view (n : Nat) (sh : Shutter) (s : State) :
    (putUnit n sh s).countsAndAnnouncer = s.countsAndAnnouncer :=
  view_of_blocks (putUnit_chain n sh s) (putUnit_announcer n sh s)

theorem lowerOrder_view (n : Nat) (s : State) : (lowerOrder n s).countsAndAnnouncer = s.countsAndAnnouncer :=
  view_of_blocks (lowerOrder_chain n s) (lowerOrder_announcer n s)

theorem raiseOrder_view (o : Bool) (n : Nat) (s : State) :
    (raiseOrder o n s).2.countsAndAnnouncer = s.countsAndAnnouncer :=
  view_of_blocks (raiseOrder_chain o n s) (raiseOrder_announcer o n s)

theorem flagFireOrdered_view (n : Nat) (s : State) :
    (flagFireOrdered n s).countsAndAnnouncer = s.countsAndAnnouncer := by
  unfold flagFireOrdered; split <;> rfl

theorem markGroupOrdered_view (n : Nat) (s : State) :
    (markGroupOrdered n s).countsAndAnnouncer = s.countsAndAnnouncer := by
  unfold markGroupOrdered; split <;> rfl

theorem markOriginOrdered_view (counting : Bool) (n : Nat) (s : State) :
    (markOriginOrdered counting n s).countsAndAnnouncer = s.countsAndAnnouncer := by
  unfold markOriginOrdered; split <;> rfl

theorem stopRaise_view (n : Nat) (s : State) : (stopRaise n s).countsAndAnnouncer = s.countsAndAnnouncer := by
  unfold stopRaise; split
  · split <;> first | exact putUnit_view .. | rfl
  · rfl

/-- An order to shutters that leaves the counts and the announcer alone at each. -/
theorem forShutters_continues (chosen : Nat → Bool) (order : Nat → State → State)
    (h : ∀ n s, (order n s).countsAndAnnouncer = s.countsAndAnnouncer) (s : State) :
    Continues s (forShutters chosen order s) := .of_view (forShutters_view State.countsAndAnnouncer chosen order h s)

theorem stopRaises_continues (s : State) : Continues s (stopRaises s) := by
  have stopped := forShutters_continues (fun _ => true) stopRaise stopRaise_view s
  unfold stopRaises
  generalize forShutters (fun _ => true) stopRaise s = u at stopped ⊢
  exact stopped.trans (.same rfl rfl)

theorem groupOrder_continues (g : Nat) (s : State) : Continues s (groupOrder g s) :=
  forShutters_continues _ _ (fun n s => (markGroupOrdered_view n _).trans (lowerOrder_view n s)) s

theorem alertOrder_continues (s : State) : Continues s (alertOrder s) :=
  forShutters_continues _ _ (fun n s => (flagFireOrdered_view n _).trans (lowerOrder_view n s)) s

theorem originOrder_continues (floor : Nat) (s : State) : Continues s (originOrder floor s) := by
  have placed (u : State) : Continues u { u with fire := { u.fire with origin := some floor } } := .same rfl rfl
  exact .trans (forShutters_continues _ _ (fun n s =>
    (markOriginOrdered_view _ n _).trans ((flagFireOrdered_view n _).trans (lowerOrder_view n s))) s) (placed _)

theorem statesFromLimits_continues (s : State) : Continues s (statesFromLimits s) :=
  forShutters_continues _ _ (fun n s => putUnit_view n _ s) s

theorem standingOrders_continues (s : State) : Continues s (standingOrders s) := by
  have lowered : Continues s (nightCloseOrder s) := .of_blocks (nightCloseOrder_chain s) (nightCloseOrder_announcer s)
  unfold standingOrders; split
  case h_4 => exact .of_blocks (morningRaise_chain s) (morningRaise_announcer s)
  case h_5 => exact .refl s
  all_goals exact lowered

theorem firstReading_continues (top bottom clear edge : BitVec 32) (s : State) :
    Continues s (firstReading top bottom clear edge s) := by
  unfold firstReading; split
  · exact .refl s
  · refine .settle ?_
    split
    · exact .same rfl rfl
    · refine .trans ?_ (standingOrders_continues _)
      refine .trans ?_ (statesFromLimits_continues _)
      exact .same rfl rfl

theorem reactTo_continues (n : Nat) (s : State) : Continues s (reactTo n s) := by
  unfold reactTo; split
  · exact .of_view (putUnit_view ..)
  · exact .refl s

theorem inputChange_continues (n : Nat) (line : InputLine) (active : Bool) (s : State) :
    Continues s (inputChange n line active s) := by
  unfold inputChange; simp only; split
  · exact .refl s
  · exact .settle (.trans (.same rfl rfl) (reactTo_continues n _))

theorem whenUnit_continues (n : Nat) (change : ShutterRec → Shutter → Option Shutter) (s : State) :
    Continues s (whenUnit n change s) := by
  unfold whenUnit; split
  · split
    · exact .settle (.of_view (putUnit_view ..))
    · exact .refl s
  · exact .refl s

/-! ### The fire stages -/

theorem setFire_continues (f : Fire) (s : State) : Continues s (setFire f s) := .same rfl rfl

theorem changeFire_continues (new : FireState) (cause : FireCause) (s : State) :
    Continues s (changeFire new cause s) := .same rfl rfl

theorem enterAlert_continues (cause : FireCause) (s : State) : Continues s (enterAlert cause s) :=
  (((changeFire_continues .alert cause s).trans (setFire_continues _ _)).trans (alertOrder_continues _)).trans
    (announceAlert_continues _)

theorem firstGroups_continues (delay : Nat) (s : State) : Continues s (firstGroups delay s) := by
  unfold firstGroups; split
  · exact (((groupOrder_continues 0 s).trans (groupOrder_continues 1 _)).trans (groupOrder_continues 2 _)).trans
      (groupOrder_continues 3 _)
  · exact groupOrder_continues 0 s

theorem enterEvacuate_continues (cause : FireCause) (s : State) : Continues s (enterEvacuate cause s) := by
  have forgotten (u : State) : Continues u (forgetGroupOrders u) := .same rfl rfl
  unfold enterEvacuate
  refine .trans ?_ (dayEvacuate_continues _)
  refine .trans ?_ (announceEvacuate_continues _)
  refine .trans ?_ (clearOutOrder_continues _)
  refine .trans ?_ (firstGroups_continues _ _)
  refine .trans ?_ (forgotten _)
  exact (Continues.trans (changeFire_continues .evacuate cause s) (setFire_continues _ _)).trans
    (stopRaises_continues _)

theorem toNormal_continues (cause : FireCause) (s : State) : Continues s (toNormal cause s) :=
  .trans (.same rfl rfl) (announceNormal_continues _)

theorem setFromLines_continues (s : State) : Continues s (setFromLines s) := by
  unfold setFromLines; split
  · exact enterEvacuate_continues ..
  · split
    · exact enterAlert_continues ..
    · split
      · exact setFire_continues ..
      · exact toNormal_continues ..

theorem endStartUp_continues (s : State) : Continues s (endStartUp s) := by
  unfold endStartUp; split
  · simp only; split
    · exact setFire_continues ..
    · exact (setFire_continues ..).trans (setFromLines_continues _)
  · exact .refl s

theorem recordFault_continues (line : Line) (r : Reading) (s : State) : Continues s (recordFault line r s) := by
  cases r <;> exact .same rfl rfl

theorem startFailSafe_continues (line : Line) (r : Reading) (s : State) : Continues s (startFailSafe line r s) := by
  unfold startFailSafe; split <;> exact .same rfl rfl

theorem lineActive_continues (line : Line) (s : State) : Continues s (lineActive line s) := by
  cases line <;> unfold lineActive <;> simp only <;> split
  · exact enterAlert_continues ..
  · exact .refl s
  · exact .refl s
  · exact enterEvacuate_continues ..

theorem readingChange_continues (line : Line) (r : Reading) (s : State) : Continues s (readingChange line r s) := by
  have taken := ((setFire_continues (s.fire.take line r) s).trans (recordFault_continues line r _)).trans
    (startFailSafe_continues line r _)
  unfold readingChange; split
  · exact .refl s
  · simp only; split
    · exact taken.trans (endStartUp_continues _)
    · split
      · exact taken.trans (lineActive_continues line _)
      · exact taken

theorem startupTimeout_continues (line : Line) (s : State) : Continues s (startupTimeout line s) := by
  unfold startupTimeout; split
  · exact readingChange_continues ..
  · exact .refl s

theorem fireEscalation_continues (s : State) : Continues s (fireEscalation s) := by
  unfold fireEscalation; split
  · exact enterEvacuate_continues ..
  · exact .refl s

theorem groupDueOrder_continues (s : State) : Continues s (groupDueOrder s) := by
  unfold groupDueOrder; split
  · split
    · exact (setFire_continues ..).trans (groupOrder_continues ..)
    · exact .refl s
  · exact .refl s

/-! ### The queues with their annunciators -/

theorem setQueue_view (q : QueueName) (x : Queue) (s : State) :
    (setQueue q x s).countsAndAnnouncer = s.countsAndAnnouncer := rfl

theorem beginGroup_view (q : QueueName) (next : NextGroup) (s : State) :
    (beginGroup q next s).countsAndAnnouncer = s.countsAndAnnouncer :=
  view_of_blocks (beginGroup_chain q next s) (beginGroup_announcer q next s)

theorem groupFallsDue_view (q : QueueName) (next : NextGroup) (s : State) :
    (groupFallsDue q next s).countsAndAnnouncer = s.countsAndAnnouncer :=
  view_of_blocks (groupFallsDue_chain q next s) (groupFallsDue_announcer q next s)

theorem newPattern_view (q : QueueName) (s : State) :
    (newPattern q s).countsAndAnnouncer = s.countsAndAnnouncer := by
  unfold newPattern; split
  · rfl
  · split
    · exact groupFallsDue_view ..
    · rfl

theorem headChange_view (q : QueueName) (s : State) :
    (headChange q s).countsAndAnnouncer = s.countsAndAnnouncer := by
  unfold headChange; split
  case h_4 => rfl
  case h_5 => exact groupFallsDue_view ..
  all_goals exact newPattern_view ..

theorem headTurnsUrgent_view (q : QueueName) (s : State) :
    (headTurnsUrgent q s).countsAndAnnouncer = s.countsAndAnnouncer := by
  unfold headTurnsUrgent; split
  · split
    · exact groupFallsDue_view ..
    · rfl
  · exact beginGroup_view ..
  · rfl

theorem groupEnd_continues (q : QueueName) (s : State) : Continues s (groupEnd q s) := by
  unfold groupEnd; split
  · simp only; split
    · exact .same rfl rfl
    · split
      · exact .same rfl rfl
      · split
        · exact .same rfl rfl
        · split <;> exact .same rfl rfl
  · exact .refl s

theorem groupDue_continues (q : QueueName) (s : State) : Continues s (groupDue q s) := by
  unfold groupDue; simp only; split
  · exact .of_view ((groupFallsDue_view ..).trans (setQueue_view ..))
  · exact .of_view ((groupFallsDue_view ..).trans (setQueue_view ..))
  · exact .refl s

theorem mergeCall_view (q : QueueName) (i : Nat) (old arrival : Call) (copy : Bool) (s : State) :
    (mergeCall q i old arrival copy s).countsAndAnnouncer = s.countsAndAnnouncer := by
  unfold mergeCall; simp only; split
  · split
    · exact headTurnsUrgent_view ..
    · rfl
  · rfl

theorem arriveCall_view (q : QueueName) (arrival : Call) (copy : Bool) (s : State) :
    (arriveCall q arrival copy s).countsAndAnnouncer = s.countsAndAnnouncer := by
  unfold arriveCall; simp only; split
  · split
    · exact mergeCall_view ..
    · rfl
  · split
    · split
      · exact headChange_view ..
      · rfl
    · split
      · exact headChange_view ..
      · rfl

theorem acknowledge_continues (q : QueueName) (k : Nat) (s : State) : Continues s (acknowledge q k s) :=
  .of_view (headChange_view q _)

theorem localAcknowledge_continues (q : QueueName) (s : State) : Continues s (localAcknowledge q s) := by
  unfold localAcknowledge; simp only; split
  · exact .refl s
  · exact .trans (.same rfl rfl) (acknowledge_continues ..)

theorem escalate_continues (q : QueueName) (s : State) : Continues s (escalate q s) := by
  unfold escalate; split
  · exact .trans (.of_view (arriveCall_view ..)) (.of_view (setQueue_view ..))
  · exact .refl s

/-! ### The call loop -/

theorem firstPoll_continues (s : State) : Continues s (firstPoll s) := by
  unfold firstPoll; split <;> exact .same rfl rfl

theorem presenceWritten_continues (s : State) : Continues s (presenceWritten s) := by
  unfold presenceWritten; split
  · exact .same rfl rfl
  · exact firstPoll_continues s

theorem outcomeTaken_continues (station : Nat) (o : Outcome) (s : State) : Continues s (outcomeTaken station o s) := by
  unfold outcomeTaken; simp only; split <;> exact .same rfl rfl

theorem press_continues (station button : Nat) (s : State) : Continues s (press station button s) := by
  have counted (f : Option Nat) (d a : Action) : Continues s (countPress station button f d a s) := .same rfl rfl
  have stopped (a : Action) (u : State) :
      Continues u (if a = .chainStop then stopPush (4 * station + button) u else u) := by
    split
    · exact stopPush_continues ..
    · exact .refl u
  unfold press
  simp only
  rcases s.decidePress (4 * station + button) with ⟨filter, decided⟩
  refine .settle (.trans ((counted filter decided (s.taken decided)).trans ?_) (stopped _ _))
  split
  · exact .of_view (arriveCall_view ..)
  · exact .refl _

theorem takePresses_continues (loopOff : Bool) (station : Nat) (pressed : BitVec 4) (s : State) :
    Continues s (takePresses loopOff station pressed s) := by
  unfold takePresses; simp only; split
  · exact .same rfl rfl
  · exact foldl_continues _ (fun s b => press_continues station b s) _ s

theorem pollEnds_continues (station : Nat) (o : Outcome) (s : State) : Continues s (pollEnds station o s) := by
  have next (u : State) : Continues u (nextPoll station u) := .same rfl rfl
  have taken := outcomeTaken_continues station o s
  cases o with
  | good pressed held => exact (taken.trans (takePresses_continues ..)).trans (next _)
  | corrupt => exact taken.trans (next _)
  | missing => exact taken.trans (next _)

theorem pollReplyEnd_continues (bytes : List Byte) (stopBits : Bool) (s : State) :
    Continues s (pollReplyEnd bytes stopBits s) := by
  unfold pollReplyEnd; split
  · exact pollEnds_continues ..
  · exact .refl s

theorem pollReplyTimeout_continues (s : State) : Continues s (pollReplyTimeout s) := by
  unfold pollReplyTimeout; split
  · exact pollEnds_continues ..
  · exact .refl s

theorem lineQuiet_continues (s : State) : Continues s (lineQuiet s) := by
  unfold lineQuiet; split
  · exact .trans (.same rfl rfl) (firstPoll_continues _)
  · exact .refl s

/-! ### The remaining events -/

theorem dwellElapsed_continues (s : State) : Continues s (dwellElapsed s) := by
  unfold dwellElapsed; split
  · exact .refl s
  · exact .settle (.same rfl rfl)

theorem driveOkChange_continues (high : Bool) (s : State) : Continues s (driveOkChange high s) := by
  unfold driveOkChange; split
  · exact .refl s
  · refine .settle ?_
    split
    · exact .same rfl rfl
    · exact .trans (.same rfl rfl) (haltIfRunning_continues ..)

theorem syncRunLimit_continues (s : State) : Continues s (syncRunLimit s) := by
  unfold syncRunLimit; split
  · exact .settle (.of_view (haltNow_view ..))
  · exact .refl s

theorem clearOutComplete_continues (s : State) : Continues s (clearOutComplete s) := by
  unfold clearOutComplete; split
  · exact .settle (.of_view (setChain_view ..))
  · exact .refl s

theorem gapEnd_continues (s : State) : Continues s (gapEnd s) := by
  unfold gapEnd; split
  · exact .settle (.same rfl rfl)
  · exact .refl s

theorem repeatExpires_continues (n : Nat) (s : State) : Continues s (repeatExpires n s) := by
  unfold repeatExpires; split
  · exact .settle (.same rfl rfl)
  · exact .refl s

theorem alertRepeat_continues (s : State) : Continues s (alertRepeat s) := by
  unfold alertRepeat; split
  · exact .settle (.same rfl rfl)
  · exact .refl s

theorem evacRepeat_continues (s : State) : Continues s (evacRepeat s) := by
  unfold evacRepeat; split
  · exact .settle (.same rfl rfl)
  · exact .refl s

theorem clearingLimit_continues (s : State) : Continues s (clearingLimit s) := by
  unfold clearingLimit; split
  · exact .settle (enterShutting_continues ..)
  · exact .refl s

theorem openingLimit_continues (s : State) : Continues s (openingLimit s) := by
  unfold openingLimit; split
  · exact .settle (enterTrading_continues ..)
  · exact .refl s

theorem keyChange_continues (active : Bool) (s : State) : Continues s (keyChange active s) := by
  unfold keyChange; split
  · exact .refl s
  · exact .settle (.same rfl rfl)

theorem keyHeld_continues (s : State) : Continues s (keyHeld s) := by
  unfold keyHeld; split
  · exact .settle (.same rfl rfl)
  · exact .refl s

end Sys2Proof.Machine
end

section
/-! SUPPORT. What a request does to the speed counts and the log: every one but ACK_LOG continues both, and ACK_LOG keeps
the counts. -/

namespace Sys2Proof.Machine

/-! ### Answers -/

theorem Continues.paired {s t : State} {payload : List Byte} (h : Continues s t) :
    Continues s (Prod.snd (payload, t)) := h

theorem Continues.settled {s t : State} {payload : List Byte} (h : Continues s t) :
    Continues s (Prod.snd (payload, Machine.settle t)) := .paired h.settle

theorem Continues.reported {s t : State} (h : Continues s t) : Continues s (okReport t).2 := h

theorem Continues.answered {s t : State} {reply : State → List Byte} (h : Continues s t) :
    Continues s (answer reply t).2 := h

theorem Continues.now {s : State} {a : Answered} (h : Continues s a.2) : Continues s (Machine.now a).2 := h

/-! ### The Commissioning Store -/

theorem setTables_continues (t : Tables) (s : State) : Continues s (setTables t s) := .same rfl rfl

theorem lowerNewlyNightClose_continues (before s : State) : Continues s (lowerNewlyNightClose before s) := by
  unfold lowerNewlyNightClose; split
  · exact forShutters_continues _ _ lowerOrder_view s
  · exact .refl s

theorem commissionUnit_continues (n : Nat) (s : State) : Continues s (commissionUnit n s) := by
  unfold commissionUnit; split
  · exact .refl s
  · exact .of_view (putUnit_view ..)

theorem writeZoneEntry_continues (zone type group night hush : Byte) (s : State) :
    Continues s (writeZoneEntry zone type group night hush s).2 := by
  unfold writeZoneEntry; simp only; split
  · exact .settled ((setTables_continues ..).trans (lowerNewlyNightClose_continues s _))
  · exact .refl s

theorem writeSite_continues (presence : BitVec 64) (counting floor : Byte) (s : State) :
    Continues s (writeSite presence counting floor s).2 := by
  unfold writeSite; simp only; split
  · exact .refl s
  · exact .settled ((setTables_continues ..).trans (presenceWritten_continues _))

theorem writeShutter_continues (index : Byte) (w : ShutterWrite) (s : State) :
    Continues s (writeShutter index w s).2 := by
  unfold writeShutter; simp only; split
  · refine .settled (.trans ?_ (lowerNewlyNightClose_continues s _))
    split
    · exact .same rfl rfl
    · split
      · exact (setTables_continues ..).trans (commissionUnit_continues ..)
      · exact setTables_continues ..
  · exact .refl s

theorem writeChain_continues (f : ChainFields) (s : State) : Continues s (writeChain f s).2 := by
  unfold writeChain; simp only; split
  · exact .settled (.same rfl rfl)
  · exact .refl s

theorem writeLanding_continues (index present : Byte) (up dn : BitVec 16) (s : State) :
    Continues s (writeLanding index present up dn s).2 := by
  unfold writeLanding; simp only; split
  · exact .settled (setTables_continues ..)
  · exact .refl s

theorem writeFilter_continues (index enabled kind first second action night : Byte) (s : State) :
    Continues s (writeFilter index enabled kind first second action night s).2 := by
  unfold writeFilter; simp only; split
  · exact .settled (setTables_continues ..)
  · exact .refl s

theorem writePhrase_continues (index : Byte) (start length : BitVec 24) (s : State) :
    Continues s (writePhrase index start length s).2 := by
  unfold writePhrase; simp only; split
  · exact .refl s
  · exact .settled (setTables_continues ..)

theorem writeFireScript_continues (name : Byte) (f : ScriptFields) (s : State) :
    Continues s (writeFireScript name f s).2 := by
  unfold writeFireScript; simp only; split
  · exact .settled (setTables_continues ..)
  · exact .refl s

theorem writeClosingStep_continues (index : Byte) (w : ClosingWrite) (s : State) :
    Continues s (writeClosingStep index w s).2 := by
  unfold writeClosingStep; simp only; split
  · exact .settled (setTables_continues ..)
  · exact .refl s

theorem writeTimings_continues (f : TimingFields) (s : State) : Continues s (writeTimings f s).2 := by
  unfold writeTimings; split
  · exact .refl s
  · exact .settled (.same rfl rfl)

theorem lockCommission_continues (s : State) : Continues s (lockCommission s).2 := by
  unfold lockCommission; split
  · exact .refl s
  · split
    · exact .refl s
    · split <;> exact .same rfl rfl

theorem serveSave_continues (s : State) : Continues s (serveSave s).2 := by
  unfold serveSave; split <;> exact .same rfl rfl

/-! ### The store day -/

theorem serveSetTime_continues (t : BitVec 24) (s : State) : Continues s (serveSetTime t s).2 := by
  unfold serveSetTime; split
  · exact .refl s
  · split
    · exact .refl s
    · exact .reported (.settle (clockShows_continues ..))

theorem serveSetSchedule_continues (opening closing : BitVec 24) (wakeOn planOn : Byte) (s : State) :
    Continues s (serveSetSchedule opening closing wakeOn planOn s).2 := by
  unfold serveSetSchedule; split
  · split
    · exact .refl s
    · split
      · exact .refl s
      · refine .reported (.settle (.trans ?_ (closeWindowTest_continues _)))
        exact .same rfl rfl
  · exact .refl s

theorem serveOpenNow_continues (s : State) : Continues s (serveOpenNow s).2 := by
  have latched : Continues s { s with day := { s.day with wakeOpenNow := true } } := .same rfl rfl
  unfold serveOpenNow; split
  · exact .refl s
  · cases s.day.state with
    | standby => exact .reported (.settle (enterOpening_continues ..))
    | shutting | shut | waking => exact .reported (.settle latched)
    | trading | opening | closing | clearing | unconfigured => exact .refl s

theorem serveCloseNow_continues (s : State) : Continues s (serveCloseNow s).2 := by
  have closed : Continues s (settle (enterClearing .closeNow (postStep 0 s))) :=
    .settle ((postStep_continues 0 s).trans (enterClearing_continues ..))
  unfold serveCloseNow
  cases s.day.state with
  | trading | closing | standby => exact .reported closed
  | clearing | shutting | shut | waking | opening | unconfigured => exact .refl s

theorem serveSetWake_continues (keyEnable clearFlags : Byte) (s : State) :
    Continues s (serveSetWake keyEnable clearFlags s).2 := by
  unfold serveSetWake; split
  · split
    · exact .refl s
    · refine .reported (.settle ?_)
      split <;> exact .same rfl rfl
  · exact .refl s

/-! ### The chain -/

theorem serveChainStart_continues (s : State) : Continues s (serveChainStart s).2 := by
  unfold serveChainStart
  split; · exact .refl s
  split; · exact .refl s
  split; · exact .refl s
  split; · exact .refl s
  split; · exact .refl s
  exact .settled (.of_view (setChain_view ..))

theorem serveChainStop_continues (s : State) : Continues s (serveChainStop s).2 := .settled (stopChain_continues s)

theorem serveChainPark_continues (s : State) : Continues s (serveChainPark s).2 := by
  unfold serveChainPark
  cases s.chain.state with
  | running => exact .settled (.of_view (setChain_view ..))
  | clearOut | parking | syncRun | stopped | stopping | halted => exact .refl s

theorem serveChainReset_continues (s : State) : Continues s (serveChainReset s).2 := by
  unfold serveChainReset; split
  · split
    · exact .settled ((Continues.of_view (setChain_view .stopped s)).trans (.same rfl rfl))
    · exact .refl s
  · exact .refl s

/-! ### Shutters and fire -/

theorem serveShutterLower_continues (index : Byte) (s : State) : Continues s (serveShutterLower index s).2 := by
  unfold serveShutterLower; simp only; split
  · exact .refl s
  · split
    · exact .refl s
    · exact .answered (.settle (.of_view (lowerOrder_view ..)))

theorem serveShutterRaise_continues (index : Byte) (s : State) : Continues s (serveShutterRaise index s).2 := by
  have raised : Continues s (raiseOrder true index.toNat s).2 := .of_view (raiseOrder_view ..)
  unfold serveShutterRaise; simp only; split
  · exact .refl s
  · refine .answered ?_
    split
    · exact .settle raised
    · exact raised

theorem serveFireReport_continues (floor : Byte) (s : State) : Continues s (serveFireReport floor s).2 := by
  unfold serveFireReport
  split; · exact .refl s
  split; · exact .refl s
  split; · exact .refl s
  exact .answered (.settle (originOrder_continues ..))

theorem serveFireReset_continues (s : State) : Continues s (serveFireReset s).2 := by
  unfold serveFireReset
  split; · exact .refl s
  split; · exact .refl s
  split
  · exact .settled (toNormal_continues ..)
  · exact .refl s

/-! ### Calls and announcements -/

theorem serveAckCalls_continues (queue slot : Byte) (expected : Option Byte) (s : State) :
    Continues s (serveAckCalls queue slot expected s).2 := by
  unfold serveAckCalls; split
  · exact .refl s
  · simp only; split
    · exact .refl s
    · split
      · exact .refl s
      · split
        · exact .refl s
        · exact .answered (.settle (acknowledge_continues ..))

theorem servePost_continues (slot : Byte) (f : PostFields) (s : State) : Continues s (servePost slot f s).2 := by
  unfold servePost; simp only
  split; · exact .refl s
  split; · exact .refl s
  split; · exact .refl s
  split; · exact .refl s
  split; · exact .refl s
  split; · exact .refl s
  exact .answered (.settle (.same rfl rfl))

theorem serveCancel_continues (slot : Byte) (s : State) : Continues s (serveCancel slot s).2 := by
  have cancelled := cancelSlot_continues slot.toNat s
  unfold serveCancel; split
  · exact .refl s
  · split
    · next h => rw [h] at cancelled; exact cancelled
    · next h => rw [h] at cancelled; exact .settled cancelled

theorem serveAckLog_counts (index : Byte) (s : State) : (serveAckLog index s).2.counts = s.counts := by
  unfold serveAckLog; split <;> rfl

theorem serveArmNotices_continues (set : BitVec 16) (s : State) : Continues s (serveArmNotices set s).2 := by
  unfold serveArmNotices; split <;> exact .same rfl rfl

theorem serveClearLatch_continues (set : BitVec 16) (s : State) : Continues s (serveClearLatch set s).2 := by
  unfold serveClearLatch; split
  · exact .refl s
  · split <;> exact .same rfl rfl

/-! ### The whole catalogue -/

/-- A request that its block answers keeps the speed counts and adds to the log only, unless it is ACK_LOG. -/
theorem serve_continues {r : Request} (hr : ∀ index, r ≠ .ackLog index) (s : State) : Continues s (serve r s).2 := by
  cases r with
  | setTime => exact .now (serveSetTime_continues ..)
  | setSchedule => exact .now (serveSetSchedule_continues ..)
  | openNow => exact .now (serveOpenNow_continues s)
  | closeNow => exact .now (serveCloseNow_continues s)
  | setWake => exact .now (serveSetWake_continues ..)
  | writeZone w =>
    cases w with
    | entry => exact .now (writeZoneEntry_continues ..)
    | site => exact .now (writeSite_continues ..)
  | writeShutter => exact .now (writeShutter_continues ..)
  | writeChain => exact .now (writeChain_continues ..)
  | writeLanding => exact .now (writeLanding_continues ..)
  | writeFilter => exact .now (writeFilter_continues ..)
  | writePhrase => exact .now (writePhrase_continues ..)
  | writeFireScript => exact .now (writeFireScript_continues ..)
  | writeClosingStep => exact .now (writeClosingStep_continues ..)
  | writeTimings => exact .now (writeTimings_continues ..)
  | lockCommission => exact .now (lockCommission_continues s)
  | saveSettings => exact serveSave_continues s
  | chainStart => exact .now (serveChainStart_continues s)
  | chainStop => exact .now (serveChainStop_continues s)
  | chainPark => exact .now (serveChainPark_continues s)
  | chainReset => exact .now (serveChainReset_continues s)
  | shutterLower => exact .now (serveShutterLower_continues ..)
  | shutterRaise => exact .now (serveShutterRaise_continues ..)
  | fireReport => exact .now (serveFireReport_continues ..)
  | fireReset => exact .now (serveFireReset_continues s)
  | ackCalls => exact .now (serveAckCalls_continues ..)
  | postAnnouncement => exact .now (servePost_continues ..)
  | cancelAnnouncement => exact .now (serveCancel_continues ..)
  | ackLog index => exact absurd rfl (hr index)
  | armNotices => exact .now (serveArmNotices_continues ..)
  | clearLatch => exact .now (serveClearLatch_continues ..)
  | getStatus | restart | readZone | readShutter | readChain | readFilter | chainStatus | openingQuery | shutterStatus
  | fireStatus | readCalls | loopStatus | announceStatus | readLog => exact .refl s

theorem serve_counts (r : Request) (s : State) : (serve r s).2.counts = s.counts := by
  by_cases hr : ∃ index, r = .ackLog index
  · obtain ⟨index, rfl⟩ := hr
    exact serveAckLog_counts index s
  · exact (serve_continues (fun index h => hr ⟨index, h⟩) s).1

/-! ### Taking a request -/

/-- What carrying out a request leaves is what its block left, with the link's part done. -/
theorem carryOut_leaves (h : Held) (r : Request) (s : State) :
    (carryOut h r s).countsAndAnnouncer = s.countsAndAnnouncer ∨
      (carryOut h r s).countsAndAnnouncer = (serve r s).2.countsAndAnnouncer := by
  unfold carryOut; split
  · exact .inl rfl
  · refine .inr ?_
    split <;> (next heq => rw [heq]; rfl)

theorem carryOut_counts (h : Held) (r : Request) (s : State) : (carryOut h r s).counts = s.counts := by
  rcases carryOut_leaves h r s with e | e
  · exact congrArg Prod.fst e
  · exact (congrArg Prod.fst e).trans (serve_counts r s)

theorem carryOut_continues (h : Held) {r : Request} (hr : ∀ index, r ≠ .ackLog index) (s : State) :
    Continues s (carryOut h r s) := by
  rcases carryOut_leaves h r s with e | e
  · exact .of_view e
  · exact (serve_continues hr s).trans (.of_view e)

theorem takeRequest_counts (h : Held) (s : State) : (takeRequest h s).counts = s.counts := by
  unfold takeRequest; simp only; split
  · rfl
  · rfl
  · exact carryOut_counts ..

theorem takeRequest_continues {h : Held} (hb : ∀ index, h.body ≠ .request (.ackLog index)) (s : State) :
    Continues s (takeRequest h s) := by
  unfold takeRequest; simp only; split
  · exact .same rfl rfl
  · exact .same rfl rfl
  · next r hr =>
    have linked : Continues s (setLink { s.link with serving := some h } s) := .same rfl rfl
    exact linked.trans (carryOut_continues h (fun index e => hb index (by rw [hr, e])) _)

theorem arrive_counts (h : Held) (s : State) : (arrive h s).counts = s.counts := by
  unfold arrive; split
  · exact takeRequest_counts h s
  · rfl
  · rfl

/-- A frame that brings anything but an ACK_LOG. -/
theorem arrive_continues {h : Held} (hb : ∀ index, h.body ≠ .request (.ackLog index)) (s : State) :
    Continues s (arrive h s) := by
  unfold arrive; split
  · exact takeRequest_continues hb s
  · exact .same rfl rfl
  · exact .same rfl rfl

theorem receiveRequest_continues (tag : Byte) {r : Request} (hr : ∀ index, r ≠ .ackLog index) (s : State) :
    Continues s (receiveRequest tag r s) := by
  refine arrive_continues (fun index => ?_) s
  unfold requestBody; split
  · exact fun e => hr index (Body.request.inj e)
  · exact nofun

/-- An ACK_LOG has a payload of one byte, so that none arrives with an empty one. -/
theorem bodyOf_nil (kind : Byte) (index : Byte) : bodyOf kind [] ≠ .request (.ackLog index) := by
  have read : ∀ reader, payloadReader kind.toNat = some reader → reader [] ≠ some (.ackLog index) := by
    intro reader hr
    unfold payloadReader at hr
    split at hr <;> cases hr <;> exact nofun
  unfold bodyOf
  split
  · exact nofun
  · next reader hr =>
    split
    · exact nofun
    · next r hp => exact fun e => read reader hr (hp.trans (congrArg some (Body.request.inj e)))

end Sys2Proof.Machine
end

section
/-! SUPPORT. Every command at the speed counts and the log: the link with its frames, the save and the restart, and the
events. -/

namespace Sys2Proof.Machine

/-! ### Frames, the save and the restart -/

theorem settle_counts (s : State) : (settle s).counts = s.counts := counts_of_steady (settle_steady s)

theorem gapDiscard_continues (s : State) : Continues s (gapDiscard s) := .same rfl rfl

theorem receiveGap_continues (s : State) : Continues s (receiveGap s) := by
  unfold receiveGap; split
  · exact gapDiscard_continues s
  · exact .refl s

theorem completeFrame_counts (bytes : List Byte) (s : State) : (completeFrame bytes s).counts = s.counts := by
  unfold completeFrame; simp only; split
  · split
    · exact arrive_counts ..
    · rfl
  · rfl

theorem receiveByte_counts (b : Byte) (stopBit : Bool) (s : State) : (receiveByte b stopBit s).counts = s.counts := by
  unfold receiveByte; split
  · split <;> rfl
  · simp only; split
    · rfl
    · split
      · exact completeFrame_counts ..
      · rfl

theorem receiveBytes_counts (bytes : List Byte) (s : State) : (receiveBytes bytes s).counts = s.counts :=
  foldl_view State.counts _ (fun s b => receiveByte_counts b true s) bytes s

theorem beginReply_continues (s : State) : Continues s (beginReply s) := by
  unfold beginReply; split <;> exact .same rfl rfl

theorem beginNotice_continues (s : State) : Continues s (beginNotice s) := by
  unfold beginNotice; split <;> exact .same rfl rfl

theorem restart_counts (s : State) : (restart s).counts = s.counts := by
  unfold restart
  rw [settle_counts, (firstPoll_continues _).1]
  exact (stopChain_continues { s with link := Link.start }).1

theorem restartTakesEffect_counts (s : State) : (restartTakesEffect s).counts = s.counts := by
  unfold restartTakesEffect; split
  · exact restart_counts s
  · rfl

theorem freeServing_counts (s : State) : (freeServing s).counts = s.counts := by
  unfold freeServing; split
  · rfl
  · exact takeRequest_counts ..

theorem frameSent_counts (s : State) : (frameSent s).counts = s.counts := by
  unfold frameSent; split
  · rfl
  · rfl
  · simp only; split
    · exact freeServing_counts _
    · rfl
    · exact restart_counts _

theorem answerSave_continues (good : Bool) (s : State) : Continues s (answerSave good s) := by
  unfold answerSave; split <;> exact .same rfl rfl

theorem answerSave_unconfigured (good : Bool) (s : State) : (answerSave good s).unconfigured = s.unconfigured := by
  unfold answerSave; split <;> rfl

/-- A save that does not take the store out of UNCONFIGURED. -/
theorem saveComplete_continues {good : Bool} {s : State} (h : good = false ∨ s.unconfigured = false) :
    Continues s (saveComplete good s) := by
  unfold saveComplete; split
  · exact .refl s
  · next job _ =>
    have stays : (good && (answerSave good { s with store := s.store.endSave good job }).unconfigured) = false := by
      rw [answerSave_unconfigured, Bool.and_eq_false_iff]
      exact h
    simp only [stays, Bool.false_eq_true, if_false]
    exact .trans (.same rfl rfl) (answerSave_continues good _)

/-! ### The commands -/

/-- An event that carries no frame, reset or end of a save, and is not the end of a speed window, keeps the speed counts and
adds to the log only. -/
theorem event_continues {c : Instr} (s : State) (hr : c.request? = none) (hc : c.carries = false)
    (hw : c ≠ .speedWindowComplete) : ∃ t, exec c s = .next t ∧ Continues s t := by
  cases c with
  | receiveGapTimeout => exact ⟨_, rfl, receiveGap_continues s⟩
  | badKindRequest tag kind => exact ⟨_, rfl, arrive_continues (bodyOf_nil kind) s⟩
  | replySendStart => exact ⟨_, rfl, beginReply_continues s⟩
  | noticeSendStart => exact ⟨_, rfl, beginNotice_continues s⟩
  | encoderStep forward => exact ⟨_, rfl, (encoderStep_continues forward s).settle⟩
  | indexPulse => exact ⟨_, rfl, (indexCheck_continues s).settle⟩
  | speedWindowComplete => exact absurd rfl hw
  | stepOffDwellElapsed => exact ⟨_, rfl, dwellElapsed_continues s⟩
  | driveOkChange high => exact ⟨_, rfl, driveOkChange_continues high s⟩
  | syncRunLimit => exact ⟨_, rfl, syncRunLimit_continues s⟩
  | clearOutComplete => exact ⟨_, rfl, clearOutComplete_continues s⟩
  | shutterFirstReading top bottom clear edge => exact ⟨_, rfl, firstReading_continues top bottom clear edge s⟩
  | shutterInputChange n line active => exact ⟨_, rfl, inputChange_continues n line active s⟩
  | slowDrop n => exact ⟨_, rfl, whenUnit_continues n _ s⟩
  | slowFinal n => exact ⟨_, rfl, whenUnit_continues n _ s⟩
  | raiseTimeout n => exact ⟨_, rfl, whenUnit_continues n _ s⟩
  | obstructionResume n => exact ⟨_, rfl, whenUnit_continues n _ s⟩
  | obstructedRetry n => exact ⟨_, rfl, whenUnit_continues n _ s⟩
  | fireLineReadingChange line reading => exact ⟨_, rfl, (readingChange_continues line reading s).settle⟩
  | startupReadTimeout line => exact ⟨_, rfl, (startupTimeout_continues line s).settle⟩
  | escalationTimeout => exact ⟨_, rfl, (fireEscalation_continues s).settle⟩
  | evacGroupDue => exact ⟨_, rfl, (groupDueOrder_continues s).settle⟩
  | pollReplyEnd bytes stopBits => exact ⟨_, rfl, pollReplyEnd_continues bytes stopBits s⟩
  | pollReplyTimeout => exact ⟨_, rfl, pollReplyTimeout_continues s⟩
  | callEscalationTimeout q => exact ⟨_, rfl, (escalate_continues q s).settle⟩
  | localAcknowledge q => exact ⟨_, rfl, (localAcknowledge_continues q s).settle⟩
  | annunciatorGroupEnd q => exact ⟨_, rfl, (groupEnd_continues q s).settle⟩
  | annunciatorGroupDue q => exact ⟨_, rfl, (groupDue_continues q s).settle⟩
  | chimeEnd => exact ⟨_, rfl, (chimeEnd_continues s).settle⟩
  | phraseEnd => exact ⟨_, rfl, (phraseEnd_continues s).settle⟩
  | gapEnd => exact ⟨_, rfl, gapEnd_continues s⟩
  | repeatTimeExpiry slot => exact ⟨_, rfl, repeatExpires_continues slot s⟩
  | alertRepeatTimeout => exact ⟨_, rfl, alertRepeat_continues s⟩
  | evacRepeatTimeout => exact ⟨_, rfl, evacRepeat_continues s⟩
  | storeClockTick => exact ⟨_, rfl, (clockTick_continues s).settle⟩
  | clearingLimitTimeout => exact ⟨_, rfl, clearingLimit_continues s⟩
  | watchmanKeyChange active => exact ⟨_, rfl, keyChange_continues active s⟩
  | keyHoldComplete => exact ⟨_, rfl, keyHeld_continues s⟩
  | openingLimitTimeout => exact ⟨_, rfl, openingLimit_continues s⟩
  | firstPollAfterRestart => exact ⟨_, rfl, lineQuiet_continues s⟩
  | powerOnReset | pinReset | frameComplete | frameSent | restartTakesEffect | saveComplete | serviceLineByteArrives =>
    exact nomatch hc
  | _ => exact nomatch hr

theorem request_isAckLog {c : Instr} {tag index : Byte} (hr : c.request? = some (tag, .ackLog index)) :
    c = .ackLog tag index := by
  cases c <;> simp only [Instr.request?, Option.some.injEq, Prod.mk.injEq, reduceCtorEq, and_false] at hr
  obtain ⟨rfl, hi⟩ := hr
  cases hi
  rfl

/-- A command that carries nothing, is no ACK_LOG and ends no speed window keeps the counts and adds to the log only. -/
theorem exec_continues {c : Instr} (s : State) (hc : c.carries = false) (ha : ∀ tag index, c ≠ .ackLog tag index)
    (hw : c ≠ .speedWindowComplete) : ∃ t, exec c s = .next t ∧ Continues s t := by
  cases hr : c.request? with
  | none => exact event_continues s hr hc hw
  | some x =>
    obtain ⟨tag, r⟩ := x
    refine ⟨_, exec_arrives s hr, receiveRequest_continues tag (fun index e => ?_) s⟩
    subst e
    exact ha tag index (request_isAckLog hr)

/-- What can change the counts of the last two speed windows (R14, R17, R22, R40). -/
theorem exec_counts {c : Instr} {s t : State} (h : exec c s = .next t) :
    t.counts = s.counts ∨ c = .speedWindowComplete ∨ (∃ a b, c = .powerOnReset a b) ∨ (∃ a b, c = .pinReset a b) ∨
      (c = .saveComplete true ∧ s.unconfigured = true) := by
  by_cases hw : c = .speedWindowComplete
  · exact .inr (.inl hw)
  by_cases ha : ∃ tag index, c = .ackLog tag index
  · obtain ⟨tag, index, rfl⟩ := ha
    cases h
    exact .inl (arrive_counts _ s)
  cases hc : c.carries with
  | false =>
    obtain ⟨u, hu, hk⟩ := exec_continues s hc (fun tag index e => ha ⟨tag, index, e⟩) hw
    cases hu.symm.trans h
    exact .inl hk.1
  | true =>
    cases c with
    | powerOnReset a b => exact .inr (.inr (.inl ⟨a, b, rfl⟩))
    | pinReset a b => exact .inr (.inr (.inr (.inl ⟨a, b, rfl⟩)))
    | restartTakesEffect => cases h; exact .inl (restartTakesEffect_counts s)
    | frameComplete bytes => cases h; exact .inl (receiveBytes_counts bytes s)
    | serviceLineByteArrives byte stopBit => cases h; exact .inl (receiveByte_counts byte stopBit s)
    | frameSent => cases h; exact .inl (frameSent_counts s)
    | saveComplete good =>
      cases h
      by_cases leaves : good = false ∨ s.unconfigured = false
      · exact .inl (saveComplete_continues leaves).1
      · simp only [not_or, Bool.not_eq_false] at leaves
        obtain ⟨rfl, hu⟩ := leaves
        exact .inr (.inr (.inr (.inr ⟨rfl, hu⟩)))
    | _ => exact nomatch hc

end Sys2Proof.Machine
end

section
/-! The chain speed: what it is made of, and what changes it (O32). -/

namespace Sys2Proof.Machine

theorem speed_of_counts {c d : Chain} (hp : c.nPrev = d.nPrev) (hl : c.nLast = d.nLast) : c.speed = d.speed := by
  rw [Chain.speed, Chain.speed, hp, hl]

theorem speed_of_pos {c : Chain} (h : 0 < c.nPrev + c.nLast) : (c.speed : Int) = 2 * (c.nPrev + c.nLast) := by
  unfold Chain.speed; omega

theorem speed_of_nonpos {c : Chain} (h : c.nPrev + c.nLast ≤ 0) : c.speed = 0 := by
  unfold Chain.speed; omega

theorem speed_le {c : Chain} (hp : c.nPrev.natAbs ≤ 2047) (hl : c.nLast.natAbs ≤ 2047) : c.speed ≤ 8188 := by
  unfold Chain.speed; omega

/-- Settles O32: the speed is made of the two counts alone, and only the commands of `exec_counts` change those. -/
theorem chainSpeed : Obligations.ChainSpeed := by
  unfold Obligations.ChainSpeed
  refine ⟨fun c => ⟨speed_of_pos, speed_of_nonpos, speed_le⟩, fun c s t h changed => ?_⟩
  rcases exec_counts h with same | cause
  · exact absurd (speed_of_counts (congrArg Prod.fst same) (congrArg Prod.snd same)) changed
  · exact cause

end Sys2Proof.Machine
end

section
/-! The announcement log: READ_LOG, ACK_LOG, the writing of a record, and what leaves the records in place (O54). -/

namespace Sys2Proof.Machine

/-- The data of an accepted READ_LOG, with the bytes of the record of each index (R147). -/
theorem readLog_eq {n : Nat} {a : Announcer} {carried : Nat → List Byte}
    (h : ∀ i r, a.log[i]? = some r → carried i = logBytes i r) :
    readLog n a = u8 a.log.length ++ u16 a.overflow ++ u8 (min n a.log.length) ++
      (List.range (min n a.log.length)).flatMap carried := by
  have items : (a.log.take n).mapIdx logBytes = (List.range (min n a.log.length)).map carried := by
    refine List.ext_getElem (by simp) (fun i hi _ => ?_)
    have hlt : i < a.log.length := by rw [List.length_mapIdx, List.length_take] at hi; omega
    simp [h i _ (List.getElem?_eq_getElem hlt)]
  rw [readLog, listOf, items, List.length_map, List.length_range, List.flatMap_def, List.append_assoc _ (u8 _)]

theorem inRange_iff {lo hi n : Nat} : inRange lo hi n = true ↔ lo ≤ n ∧ n ≤ hi := by simp [inRange]

theorem serveReadLog_bad {count : Byte} (s : State) (h : count.toNat = 0 ∨ 8 < count.toNat) :
    serveReadLog count s = [3#8] := by
  rw [serveReadLog, if_neg (by rw [inRange_iff]; omega)]; rfl

theorem serveReadLog_good {count : Byte} (s : State) (h1 : 1 ≤ count.toNat) (h8 : count.toNat ≤ 8) :
    serveReadLog count s = 0#8 :: readLog count.toNat s.announcer := by
  rw [serveReadLog, if_pos (inRange_iff.mpr ⟨h1, h8⟩)]; rfl

/-- In UNCONFIGURED a request that is not served there is answered UNCONFIGURED, with nothing else changed (R15). -/
theorem exec_unconfigured {c : Instr} {tag : Byte} {r : Request} {s : State} (hc : c.request? = some (tag, r))
    (hw : r.wellFormed = true) (hs : s.serves) (hu : s.unconfigured = true)
    (hk : servedUnconfigured r.kind = false) : exec c s = .next (s.answered tag r [9#8]) := by
  have turned : ((s.serving tag r).unconfigured && !servedUnconfigured r.kind) = true := by
    have : (s.serving tag r).unconfigured = s.unconfigured := rfl
    simp [this, hu, hk]
  rw [exec_taken hc hw hs, carryOut, if_pos turned]
  rfl

theorem exec_readLog (tag count : Byte) (s : State) (hs : s.serves) (hu : s.unconfigured = false) :
    exec (.readLog tag count) s = .next (s.answered tag (.readLog count) (serveReadLog count s)) :=
  exec_refused rfl rfl hs (.inl hu) rfl

theorem serveAckLog_bad {index : Byte} (s : State) (h : s.announcer.log.length ≤ index.toNat ∨ 15 < index.toNat) :
    serveAckLog index s = ([4#8], s) := by
  have out : ¬ ((decide (index.toNat < s.announcer.log.length) && decide (index.toNat < 16)) = true) := by
    rw [Bool.and_eq_true, decide_eq_true_eq, decide_eq_true_eq]; omega
  rw [serveAckLog, if_neg out]; rfl

theorem serveAckLog_good {index : Byte} {gone left : List LogRec} {s : State} (h : index.toNat ≤ 15)
    (hlog : s.announcer.log = gone ++ left) (hgone : gone.length = index.toNat + 1) :
    serveAckLog index s = (0#8 :: (u8 (index.toNat + 1) ++ u8 left.length),
      { s with announcer := { s.announcer with log := left } }) := by
  have within : (decide (index.toNat < s.announcer.log.length) && decide (index.toNat < 16)) = true := by
    rw [Bool.and_eq_true, decide_eq_true_eq, decide_eq_true_eq, hlog, List.length_append]; omega
  have rest : s.announcer.log.drop (index.toNat + 1) = left := by rw [hlog, ← hgone, List.drop_left]
  rw [serveAckLog, if_pos within, rest]; rfl

theorem writeLog_of_room (r : LogRec) {s : State} (h : s.announcer.log.length < 16) : writeLog r s =
    { s with
      announcer := { s.announcer with log := s.announcer.log ++ [r] }
      link := (raise .log (u8 s.announcer.log.length ++ u8 r.source.code ++ u8 r.marker ++ u8 r.outcome.ctorIdx)
        s).link } := by
  rw [writeLog, if_pos h]; rfl

theorem writeLog_of_full (r : LogRec) {s : State} (h : 16 ≤ s.announcer.log.length) : writeLog r s =
    { s with
      announcer := { s.announcer with overflow := min (s.announcer.overflow + 1) 65535 }
      link := (raise .logOverflow (u8 r.source.code ++ u8 r.marker ++ u8 r.outcome.ctorIdx) s).link } := by
  rw [writeLog, if_neg (by omega)]; rfl

/-- The end of a speed window adds to the log only. -/
theorem windowComplete_log (s : State) :
    ∃ t, exec .speedWindowComplete s = .next t ∧ s.announcer.log <+: t.announcer.log :=
  ⟨_, rfl, (Continues.refl (windowComplete s)).settle.2⟩

/-- What leaves every record of the log in its place (R148). -/
theorem exec_log {c : Instr} {s t : State} (h : exec c s = .next t) (ha : ∀ tag index, c ≠ .ackLog tag index)
    (hc : c.carries = false ∨ ∃ good, c = .saveComplete good ∧ (good = false ∨ s.unconfigured = false)) :
    s.announcer.log <+: t.announcer.log := by
  rcases hc with hc | ⟨good, rfl, stays⟩
  · by_cases hw : c = .speedWindowComplete
    · subst hw
      obtain ⟨u, hu, grown⟩ := windowComplete_log s
      cases hu.symm.trans h
      exact grown
    · obtain ⟨u, hu, hk⟩ := exec_continues s hc ha hw
      cases hu.symm.trans h
      exact hk.2
  · cases h
    exact (saveComplete_continues stays).2

/-- Settles O54: the two requests case by case, the writing of a record, and `exec_log` over the commands. -/
theorem logReadAndAcknowledged : Obligations.LogReadAndAcknowledged := by
  unfold Obligations.LogReadAndAcknowledged
  refine ⟨fun tag count s hs => ⟨fun hu => ?_, fun hu hbad => ?_, fun hu h1 h8 => ?_⟩,
    fun tag index s hs => ⟨fun hu => ?_, fun hu hbad => ?_, fun gone left hu h15 hlog hgone => ?_⟩,
    fun r s => ⟨writeLog_of_room r, writeLog_of_full r⟩, fun c s t h ha hc => ?_⟩
  · exact exec_unconfigured rfl rfl hs hu rfl
  · rw [exec_readLog tag count s hs hu, serveReadLog_bad s hbad]
  · rw [exec_readLog tag count s hs hu, serveReadLog_good s h1 h8]
    exact congrArg (fun data => Host.Outcome.next (s.answered tag (.readLog count) (0#8 :: data)))
      (readLog_eq fun i r hr => by rw [hr]; rfl)
  · exact exec_unconfigured rfl rfl hs hu rfl
  · exact exec_refused rfl rfl hs (.inl hu) (congrArg now (serveAckLog_bad (s.serving tag (.ackLog index)) hbad))
  · exact exec_replied (r := .ackLog index) rfl rfl hs (.inl hu)
      (congrArg now (serveAckLog_good (s := s.serving tag (.ackLog index)) h15 hlog hgone))
  · obtain ⟨new, hnew⟩ := exec_log h ha hc
    exact ⟨new, hnew.symm⟩

end Sys2Proof.Machine
end

section
/-! The status of a present opening (O36): distances around the chain loop, the nearest cabin of a list of floors, and
the status made of them. -/

namespace Sys2Proof.Machine

/-! ### Distances around the loop -/

/-- The model adds L before it subtracts, so that no natural number falls below 0: what is left is the distance modulo L. -/
theorem natCast_add_sub_mod {x y L : Nat} (h : y ≤ x + L) : ((x + L - y) % L : Nat) = ((x : Int) - y) % L := by
  have shifted : (x : Int) + L - y = x - y + L := by omega
  rw [Int.natCast_mod, Nat.cast_sub h, Nat.cast_add, shifted, Int.add_emod_right]

section
variable {g : Geometry} {a x : Nat}

theorem leadingEdge_lt (hw : g.halfWidth < g.length) : leadingEdge g a < g.length := Nat.mod_lt _ (by omega)

theorem natCast_leadingEdge (hw : g.halfWidth < g.length) :
    (leadingEdge g a : Int) = ((a : Int) - g.halfWidth) % g.length :=
  natCast_add_sub_mod (by omega)

/-- The window test of R43. -/
theorem inWindow_iff (hw : g.halfWidth < g.length) : inWindow g (leadingEdge g a) x = true ↔
    ((x : Int) - ((a : Int) - g.halfWidth)) % g.length ≤ 2 * g.halfWidth := by
  have edge : leadingEdge g a < g.length := leadingEdge_lt hw
  rw [inWindow, decide_eq_true_iff, ← Int.sub_emod_emod, ← natCast_leadingEdge hw, ← natCast_add_sub_mod (by omega)]
  omega

/-- The entry distance of R44. -/
theorem natCast_entryDistance (hw : g.halfWidth < g.length) (hx : x < g.length) :
    (entryDistance g (leadingEdge g a) x : Int) = (((a : Int) - g.halfWidth) - x) % g.length := by
  rw [← Int.emod_sub_emod, ← natCast_leadingEdge hw, entryDistance, natCast_add_sub_mod (by omega)]

theorem entryDistance_lt {lead : Nat} (hL : 0 < g.length) : entryDistance g lead x < g.length := Nat.mod_lt _ hL

/-- A floor at the leading edge itself is in the window, so a floor outside it has some way to go (R44). -/
theorem entryDistance_pos (hw : g.halfWidth < g.length) (hx : x < g.length)
    (out : inWindow g (leadingEdge g a) x = false) : 0 < entryDistance g (leadingEdge g a) x := by
  by_contra zero
  have aligned : (g.length : Int) ∣ (a : Int) - g.halfWidth - x :=
    Int.dvd_of_emod_eq_zero (by rw [← natCast_entryDistance hw hx]; omega)
  have inside : inWindow g (leadingEdge g a) x = true := by
    rw [inWindow_iff hw, Int.emod_eq_zero_of_dvd (dvd_sub_comm.mp aligned)]
    omega
  exact Bool.eq_false_iff.mp out inside

end

/-! ### The nearest cabin -/

/-- `nearest` finds, of a list of floors numbered from `n`, the first one of the smallest entry distance (R44). -/
theorem nearest_eq_first_least (g : Geometry) (lead : Nat) (n : Nat) (cs : List Nat) (hcs : cs ≠ []) :
    ∃ (m : Nat) (hm : m < cs.length), nearest g lead n cs = some (entryDistance g lead cs[m], n + m) ∧
      ∀ (i : Nat) (hi : i < cs.length), entryDistance g lead cs[m] ≤ entryDistance g lead cs[i] ∧
        (i < m → entryDistance g lead cs[m] < entryDistance g lead cs[i]) := by
  induction cs generalizing n with
  | nil => exact absurd rfl hcs
  | cons x xs ih =>
    rcases eq_or_ne xs [] with rfl | hxs
    · refine ⟨0, by simp, rfl, fun i hi => ?_⟩
      obtain rfl : i = 0 := by simpa using hi
      exact ⟨le_rfl, fun h => absurd h (lt_irrefl 0)⟩
    obtain ⟨m, hm, found, least⟩ := ih (n + 1) hxs
    by_cases hx : entryDistance g lead x ≤ entryDistance g lead xs[m]
    · refine ⟨0, by simp, by simp [nearest, found, hx], fun i hi => ⟨?_, fun h => absurd h (by omega)⟩⟩
      cases i with
      | zero => exact le_rfl
      | succ i => exact hx.trans (least i (by simpa using hi)).1
    · refine ⟨m + 1, by simpa using hm, by simp [nearest, found, hx, Nat.add_assoc, Nat.add_comm 1], fun i hi => ?_⟩
      cases i with
      | zero => exact ⟨(not_le.mp hx).le, fun _ => not_le.mp hx⟩
      | succ i => exact (least i (by simpa using hi)).imp_right fun closer h => closer (by omega)

/-! ### The cabin floors -/

section
variable {g : Geometry} {p a k : Nat}

@[simp] theorem cabins_length : (cabins g p).length = g.offsets.length := List.length_map ..

theorem getElem_cabins (hk : k < (cabins g p).length) : (cabins g p)[k] = (g.offsets.getD k 0 + p) % g.length := by
  rw [cabins_length] at hk
  simp [cabins, hk]

theorem getElem_cabins_lt (hL : 0 < g.length) (hk : k < (cabins g p).length) : (cabins g p)[k] < g.length := by
  rw [getElem_cabins hk]
  exact Nat.mod_lt _ hL

/-- Some cabin is the occupant exactly when some cabin's floor is in the window (R43). -/
theorem occupant_isSome_iff : (occupant g p a).isSome = true ↔
    ∃ (k : Nat) (hk : k < (cabins g p).length), inWindow g (leadingEdge g a) (cabins g p)[k] = true := by
  rw [occupant, List.findIdx?_isSome, List.any_eq_true, List.exists_mem_iff_getElem]

end

/-! ### The status -/

theorem opening_of_landing {s : State} {j : Nat} {g : Geometry} {l : Landing} (hu : s.unconfigured = false)
    (hg : s.store.tables.geometry = some g) (hl : s.store.tables.landings[j / 2]?.join = some l) :
    s.opening j = some (g, if j % 2 = 0 then l.up else l.dn) := by
  have present : s.store.tables.landings.getD (j / 2) none = some l := by
    rw [List.getD_eq_getElem?_getD, Option.join_eq_some_iff.mp hl, Option.getD_some]
  rw [State.opening, State.counting, hu, hg, present]
  rfl

section
variable {s : State} {j : Nat} {g : Geometry} {a : Nat}

theorem openingStatus_occupied {k : Nat} (ho : s.opening j = some (g, a)) (hk : occupant g s.chain.p a = some k) :
    s.openingStatus j = ⟨true, some k, none⟩ := by
  simp [State.openingStatus, ho, hk]

theorem openingStatus_unoccupied (ho : s.opening j = some (g, a)) (hn : occupant g s.chain.p a = none) :
    s.openingStatus j = ⟨true, none, (nearest g (leadingEdge g a) 0 (cabins g s.chain.p)).map fun (d, k) =>
      ⟨d, k, timeToEntry d s.chain.speed⟩⟩ := by
  simp [State.openingStatus, ho, hn]

theorem openingStatus_present (ho : s.opening j = some (g, a)) : (s.openingStatus j).present = true := by
  cases h : occupant g s.chain.p a with
  | none => rw [openingStatus_unoccupied ho h]
  | some k => rw [openingStatus_occupied ho h]

theorem openingStatus_occupant (ho : s.opening j = some (g, a)) :
    (s.openingStatus j).occupant = occupant g s.chain.p a := by
  cases h : occupant g s.chain.p a with
  | none => rw [openingStatus_unoccupied ho h]
  | some k => rw [openingStatus_occupied ho h]

end

/-- Settles O36: the window test and the entry distances as the model computes them are those of R43 and R44, and
`nearest` finds the cabin that is closest. (`entryDistance` by itself is the model's function.) -/
theorem openingStatus_entryDistance : Obligations.EntryDistance := by
  unfold Obligations.EntryDistance
  intro s j g l a c hu hg hl ha _ hw hoff hc
  have ho : s.opening j = some (g, a) := ha ▸ opening_of_landing hu hg hl
  have floor : ∀ k (hk : k < (cabins g s.chain.p).length), c k = ((cabins g s.chain.p)[k] : Int) := fun k hk => by
    rw [hc, getElem_cabins hk]
  have window : ∀ k (hk : k < (cabins g s.chain.p).length), inWindow g (leadingEdge g a) (cabins g s.chain.p)[k] = true ↔
      (c k - ((a : Int) - g.halfWidth)) % g.length ≤ 2 * g.halfWidth := fun k hk => by
    rw [floor k hk, inWindow_iff hw]
  have distance : ∀ k (hk : k < (cabins g s.chain.p).length),
      (entryDistance g (leadingEdge g a) (cabins g s.chain.p)[k] : Int) = ((a : Int) - g.halfWidth - c k) % g.length :=
    fun k hk => by rw [floor k hk, natCast_entryDistance hw (getElem_cabins_lt (by omega) hk)]
  refine ⟨openingStatus_present ho, ?_, fun occupied => ?_, fun unoccupied => ?_⟩
  · rw [openingStatus_occupant ho, occupant_isSome_iff]
    simp only [window, cabins_length, exists_prop]
  · rw [openingStatus_occupant ho] at occupied
    obtain ⟨k, hk⟩ := Option.isSome_iff_exists.mp occupied
    rw [openingStatus_occupied ho hk]
  · rw [openingStatus_occupant ho] at unoccupied
    obtain ⟨m, hm, found, least⟩ :=
      nearest_eq_first_least g (leadingEdge g a) 0 (cabins g s.chain.p) (by simpa [cabins])
    have out : inWindow g (leadingEdge g a) (cabins g s.chain.p)[m] = false :=
      List.findIdx?_eq_none_iff.mp unoccupied _ (List.getElem_mem hm)
    have pos := entryDistance_pos hw (getElem_cabins_lt (by omega) hm) out
    refine ⟨_, m, cabins_length ▸ hm, distance m hm, pos, entryDistance_lt (by omega), fun i hi => ?_, ?_⟩
    · rw [← distance i (cabins_length.symm ▸ hi)]
      exact_mod_cast least i (cabins_length.symm ▸ hi)
    · rw [openingStatus_unoccupied ho unoccupied, found, Nat.zero_add]
      rfl

end Sys2Proof.Machine
end

section
/-! SUPPORT. The moves of the call queues (chapter 7): which blocks they touch, and that an arrival reads nothing of the Call
Intake. -/

namespace Sys2Proof.Machine

/-! ### What a move of the queues touches -/

/-- From `s` to `t` nothing but the queues with their annunciators and the service link has changed. -/
def QueuesOnly (s t : State) : Prop := ∃ calls link, t = { s with calls := calls, link := link }

section
variable {s t u : State}

theorem QueuesOnly.refl (s : State) : QueuesOnly s s := ⟨_, _, rfl⟩

theorem QueuesOnly.trans (h : QueuesOnly s t) (h' : QueuesOnly t u) : QueuesOnly s u := by
  obtain ⟨_, _, rfl⟩ := h
  obtain ⟨calls, link, rfl⟩ := h'
  exact ⟨calls, link, rfl⟩

theorem QueuesOnly.intake (h : QueuesOnly s t) : t.intake = s.intake := by obtain ⟨_, _, rfl⟩ := h; rfl
theorem QueuesOnly.chain (h : QueuesOnly s t) : t.chain = s.chain := by obtain ⟨_, _, rfl⟩ := h; rfl
theorem QueuesOnly.day (h : QueuesOnly s t) : t.day = s.day := by obtain ⟨_, _, rfl⟩ := h; rfl

end

theorem setQueue_queuesOnly (q : QueueName) (x : Queue) (s : State) : QueuesOnly s (setQueue q x s) := ⟨_, _, rfl⟩

theorem setPattern_queuesOnly (q : QueueName) (p : Pattern) (s : State) : QueuesOnly s (setPattern q p s) := ⟨_, _, rfl⟩

theorem beginGroup_queuesOnly (q : QueueName) (next : NextGroup) (s : State) : QueuesOnly s (beginGroup q next s) := by
  unfold beginGroup; split <;> exact setPattern_queuesOnly ..

theorem groupFallsDue_queuesOnly (q : QueueName) (next : NextGroup) (s : State) :
    QueuesOnly s (groupFallsDue q next s) := by
  unfold groupFallsDue; split
  · exact setPattern_queuesOnly ..
  · split
    · exact setPattern_queuesOnly ..
    · exact beginGroup_queuesOnly ..

theorem newPattern_queuesOnly (q : QueueName) (s : State) : QueuesOnly s (newPattern q s) := by
  unfold newPattern; split
  · exact setPattern_queuesOnly ..
  · split
    · exact groupFallsDue_queuesOnly ..
    · exact setPattern_queuesOnly ..

theorem headChange_queuesOnly (q : QueueName) (s : State) : QueuesOnly s (headChange q s) := by
  unfold headChange; split
  case h_4 => exact setPattern_queuesOnly ..
  case h_5 => exact groupFallsDue_queuesOnly ..
  all_goals exact newPattern_queuesOnly ..

theorem headTurnsUrgent_queuesOnly (q : QueueName) (s : State) : QueuesOnly s (headTurnsUrgent q s) := by
  unfold headTurnsUrgent; split
  · split
    · exact groupFallsDue_queuesOnly ..
    · exact .refl s
  · exact beginGroup_queuesOnly ..
  · exact .refl s

theorem groupEnd_queuesOnly (q : QueueName) (s : State) : QueuesOnly s (groupEnd q s) := by
  have ended (x : Queue) (p : Pattern) : QueuesOnly s (setPattern q p (setQueue q x s)) := ⟨_, _, rfl⟩
  unfold groupEnd; split
  · simp only; split
    · exact ended ..
    · split
      · exact ended ..
      · split
        · exact ended ..
        · split <;> exact ended ..
  · exact .refl s

theorem groupDue_queuesOnly (q : QueueName) (s : State) : QueuesOnly s (groupDue q s) := by
  have due (next : NextGroup) (x : Queue) : QueuesOnly s (groupFallsDue q next (setQueue q x s)) :=
    (setQueue_queuesOnly ..).trans (groupFallsDue_queuesOnly ..)
  unfold groupDue; simp only; split
  · exact due ..
  · exact due ..
  · exact .refl s

theorem mergeCall_queuesOnly (q : QueueName) (i : Nat) (old arrival : Call) (copy : Bool) (s : State) :
    QueuesOnly s (mergeCall q i old arrival copy s) := by
  have merged (x : Queue) (data : List Byte) : QueuesOnly s (raise .callUrgent data (setQueue q x s)) := ⟨_, _, rfl⟩
  unfold mergeCall; simp only; split
  · split
    · exact (merged ..).trans (headTurnsUrgent_queuesOnly ..)
    · exact merged ..
  · exact setQueue_queuesOnly ..

theorem appendCall_queuesOnly (q : QueueName) (arrival : Call) (copy : Bool) (s : State) :
    QueuesOnly s (appendCall q arrival copy s) := ⟨_, _, rfl⟩

/-- An arrival touches nothing but the queues and the link (R114, R115). -/
theorem arriveCall_queuesOnly (q : QueueName) (arrival : Call) (copy : Bool) (s : State) :
    QueuesOnly s (arriveCall q arrival copy s) := by
  have appended := appendCall_queuesOnly q arrival copy s
  have lost (x : Queue) (code reason : Nat) : QueuesOnly s (raiseLost q code reason (setQueue q x s)) := ⟨_, _, rfl⟩
  unfold arriveCall; simp only; split
  · split
    · exact mergeCall_queuesOnly ..
    · exact .refl s
  · split
    · split
      · exact (appended.trans (setQueue_queuesOnly ..)).trans (headChange_queuesOnly ..)
      · exact appended
    · split
      · exact ((lost ..).trans (appendCall_queuesOnly ..)).trans (headChange_queuesOnly ..)
      · exact lost ..

theorem acknowledge_queuesOnly (q : QueueName) (k : Nat) (s : State) : QueuesOnly s (acknowledge q k s) :=
  (setQueue_queuesOnly ..).trans (headChange_queuesOnly ..)

theorem localAcknowledge_queuesOnly (q : QueueName) (s : State) : QueuesOnly s (localAcknowledge q s) := by
  unfold localAcknowledge; simp only; split
  · exact .refl s
  · exact (setQueue_queuesOnly ..).trans (acknowledge_queuesOnly ..)

theorem escalate_queuesOnly (q : QueueName) (s : State) : QueuesOnly s (escalate q s) := by
  unfold escalate; split
  · exact (arriveCall_queuesOnly ..).trans (setQueue_queuesOnly ..)
  · exact .refl s

/-! ### An arrival reads nothing of the Call Intake -/

section
variable (i : Intake) (q : QueueName) (s : State)

@[simp] theorem setIntake_queue : (setIntake i s).queue q = s.queue q := rfl

theorem beginGroup_setIntake (next : NextGroup) :
    beginGroup q next (setIntake i s) = setIntake i (beginGroup q next s) := by
  unfold beginGroup; rw [setIntake_queue]
  cases (s.queue q).calls.head? <;> rfl

theorem groupFallsDue_setIntake (next : NextGroup) :
    groupFallsDue q next (setIntake i s) = setIntake i (groupFallsDue q next s) := by
  have hushed : (setIntake i s).hushed q = s.hushed q := rfl
  unfold groupFallsDue; rw [setIntake_queue, hushed]
  cases (s.queue q).calls.head? with
  | none => rfl
  | some h => simp only [beginGroup_setIntake, apply_ite (setIntake i)]; rfl

theorem newPattern_setIntake : newPattern q (setIntake i s) = setIntake i (newPattern q s) := by
  simp only [newPattern, setIntake_queue, groupFallsDue_setIntake, apply_ite (setIntake i)]; rfl

theorem headChange_setIntake : headChange q (setIntake i s) = setIntake i (headChange q s) := by
  unfold headChange; rw [setIntake_queue]
  cases (s.queue q).pattern with
  | silent | groupGap | patternWait => exact newPattern_setIntake ..
  | striking => rfl
  | hushWait => exact groupFallsDue_setIntake ..

theorem headTurnsUrgent_setIntake : headTurnsUrgent q (setIntake i s) = setIntake i (headTurnsUrgent q s) := by
  unfold headTurnsUrgent; rw [setIntake_queue]
  cases (s.queue q).pattern with
  | patternWait => simp only [groupFallsDue_setIntake, apply_ite (setIntake i)]
  | hushWait => exact beginGroup_setIntake ..
  | silent | striking | groupGap => rfl

theorem mergeCall_setIntake (n : Nat) (old arrival : Call) (copy : Bool) :
    mergeCall q n old arrival copy (setIntake i s) = setIntake i (mergeCall q n old arrival copy s) := by
  unfold mergeCall
  simp only [setIntake_queue, apply_ite (setIntake i), ← headTurnsUrgent_setIntake]; rfl

/-- An arrival does the same whatever the Call Intake holds. -/
theorem arriveCall_setIntake (arrival : Call) (copy : Bool) :
    arriveCall q arrival copy (setIntake i s) = setIntake i (arriveCall q arrival copy s) := by
  unfold arriveCall
  simp only [setIntake_queue]
  split
  · split
    · exact mergeCall_setIntake ..
    · rfl
  · simp only [apply_ite (setIntake i), ← headChange_setIntake]; rfl

end

end Sys2Proof.Machine
end

section
/-! SUPPORT. What leaves the Call Intake alone: the moves of the other blocks, one lemma for each, up to the requests and the
events that are none of the call loop's. -/

namespace Sys2Proof.Machine

/-! ### The chain -/

section
variable (s : State)

@[simp] theorem clearOutOrder_intake : (clearOutOrder s).intake = s.intake := steady_intake (clearOutOrder_steady s)

@[simp] theorem stopChain_intake : (stopChain s).intake = s.intake := steady_intake (stopChain_steady s)

@[simp] theorem haltNow_intake (cause : HaltCause) (code : Option Nat) : (haltNow cause code s).intake = s.intake := rfl

@[simp] theorem haltIfRunning_intake (cause : HaltCause) : (haltIfRunning cause s).intake = s.intake :=
  steady_intake (haltIfRunning_steady cause s)

@[simp] theorem workingStep_intake (forward : Bool) (g : Geometry) : (workingStep forward g s).intake = s.intake := by
  unfold workingStep; split
  · split <;> rfl
  · simp only [apply_ite State.intake, setChain_intake, ite_self]
  · rfl

@[simp] theorem encoderStep_intake (forward : Bool) : (encoderStep forward s).intake = s.intake := by
  unfold encoderStep; simp only; split
  · rfl
  · rw [workingStep_intake]

@[simp] theorem indexCheck_intake : (indexCheck s).intake = s.intake := by
  unfold indexCheck; split
  · rfl
  · simp only; split
    · split <;> rfl
    · split
      · rfl
      · rw [haltIfRunning_intake]

theorem dwellElapsed_intake : (dwellElapsed s).intake = s.intake := by
  unfold dwellElapsed; split
  · rfl
  · rw [settle_intake]

theorem driveOkChange_intake (high : Bool) : (driveOkChange high s).intake = s.intake := by
  unfold driveOkChange; split
  · rfl
  · rw [settle_intake]
    split
    · rfl
    · rw [haltIfRunning_intake]

theorem syncRunLimit_intake : (syncRunLimit s).intake = s.intake := by
  unfold syncRunLimit; split <;> simp

theorem clearOutComplete_intake : (clearOutComplete s).intake = s.intake := by
  unfold clearOutComplete; split <;> simp

/-! ### The shutters -/

@[simp] theorem putUnit_intake (n : Nat) (sh : Shutter) : (putUnit n sh s).intake = s.intake :=
  steady_intake (putUnit_steady n sh s)

@[simp] theorem lowerOrder_intake (n : Nat) : (lowerOrder n s).intake = s.intake := steady_intake (lowerOrder_steady n s)

@[simp] theorem raiseOrder_intake (o : Bool) (n : Nat) : (raiseOrder o n s).2.intake = s.intake :=
  steady_intake (raiseOrder_steady o n s)

@[simp] theorem flagFireOrdered_intake (n : Nat) : (flagFireOrdered n s).intake = s.intake := by
  unfold flagFireOrdered; split <;> rfl

@[simp] theorem markGroupOrdered_intake (n : Nat) : (markGroupOrdered n s).intake = s.intake := by
  unfold markGroupOrdered; split <;> rfl

@[simp] theorem markOriginOrdered_intake (counting : Bool) (n : Nat) :
    (markOriginOrdered counting n s).intake = s.intake := by
  unfold markOriginOrdered; split <;> rfl

theorem stopRaise_intake (n : Nat) : (stopRaise n s).intake = s.intake := by
  unfold stopRaise; split
  · split <;> simp
  · rfl

@[simp] theorem stopRaises_intake : (stopRaises s).intake = s.intake := by
  have stopped := forShutters_view State.intake (fun _ => true) stopRaise (fun n s => stopRaise_intake s n) s
  unfold stopRaises
  generalize forShutters (fun _ => true) stopRaise s = u at stopped ⊢
  exact stopped

@[simp] theorem groupOrder_intake (g : Nat) : (groupOrder g s).intake = s.intake :=
  forShutters_view State.intake _ _ (fun n s => by simp) s

@[simp] theorem alertOrder_intake : (alertOrder s).intake = s.intake :=
  forShutters_view State.intake _ _ (fun n s => by simp) s

@[simp] theorem originOrder_intake (floor : Nat) : (originOrder floor s).intake = s.intake :=
  forShutters_view State.intake _ _ (fun n s => by simp) s

@[simp] theorem statesFromLimits_intake : (statesFromLimits s).intake = s.intake :=
  forShutters_view State.intake _ _ (fun n s => by simp) s

@[simp] theorem standingOrders_intake : (standingOrders s).intake = s.intake := by
  have lowered := steady_intake (nightCloseOrder_steady s)
  unfold standingOrders; split
  case h_4 => exact steady_intake (morningRaise_steady s)
  case h_5 => rfl
  all_goals exact lowered

theorem firstReading_intake (top bottom clear edge : BitVec 32) :
    (firstReading top bottom clear edge s).intake = s.intake := by
  unfold firstReading; split
  · rfl
  · rw [settle_intake]
    split <;> simp

theorem inputChange_intake (n : Nat) (line : InputLine) (active : Bool) :
    (inputChange n line active s).intake = s.intake := by
  unfold inputChange; simp only; split
  · rfl
  · rw [settle_intake]
    unfold reactTo; split <;> simp

theorem whenUnit_intake (n : Nat) (change : ShutterRec → Shutter → Option Shutter) :
    (whenUnit n change s).intake = s.intake := by
  unfold whenUnit; split
  · split <;> simp
  · rfl

/-! ### The announcements -/

theorem cancelSlot_intake (n : Nat) : (cancelSlot n s).2.intake = s.intake := by
  unfold cancelSlot; split
  · rfl
  · exact steady_intake (logUnstarted_steady ..)
  · exact steady_intake (logUnstarted_steady ..)
  · split <;> rfl

@[simp] theorem announceAlert_intake : (announceAlert s).intake = s.intake := by
  unfold announceAlert; simp only; split
  · split <;> rfl
  · rfl

theorem withdraw_intake (n : Nat) : (withdraw n s).intake = s.intake := by
  unfold withdraw; split
  · exact steady_intake (logUnstarted_steady ..)
  · exact steady_intake (logUnstarted_steady ..)
  · rfl

theorem cutRun_intake : (cutRun s).intake = s.intake := by
  have cut (r : Run) : (setPlayer .idle (freeSlot r.source (logRun r .preempted s))).intake = s.intake :=
    steady_intake (by simp)
  unfold cutRun; split
  · rfl
  · rfl
  · split
    · rfl
    · exact cut _
  · split
    · rfl
    · exact cut _

theorem dropWaiting_intake : (dropWaiting s).intake = s.intake := by
  unfold dropWaiting; split
  · rfl
  · exact steady_intake (logUnstarted_steady ..)

@[simp] theorem announceEvacuate_intake : (announceEvacuate s).intake = s.intake := by
  unfold announceEvacuate
  simp only [dropWaiting_intake]
  rw [foldl_view State.intake _ (fun s n => withdraw_intake s n), cutRun_intake]

theorem chimeEnd_steady : (chimeEnd s).steady = s.steady := by
  unfold chimeEnd; split
  · split <;> simp
  · rfl

theorem phraseEnd_steady : (phraseEnd s).steady = s.steady := by
  unfold phraseEnd; split
  · simp only; split <;> simp
  · rfl

theorem gapEnd_intake : (gapEnd s).intake = s.intake := by
  unfold gapEnd; split <;> simp

theorem repeatExpires_intake (n : Nat) : (repeatExpires n s).intake = s.intake := by
  unfold repeatExpires; split <;> simp

theorem alertRepeat_intake : (alertRepeat s).intake = s.intake := by
  unfold alertRepeat; split <;> simp

theorem evacRepeat_intake : (evacRepeat s).intake = s.intake := by
  unfold evacRepeat; split <;> simp

/-! ### The store day -/

@[simp] theorem postStep_intake (o : Nat) : (postStep o s).intake = s.intake := steady_intake (postStep_steady o s)

@[simp] theorem enterClearing_intake (cause : StoreCause) : (enterClearing cause s).intake = s.intake :=
  steady_intake (enterClearing_steady cause s)

@[simp] theorem enterOpening_intake (cause : StoreCause) : (enterOpening cause s).intake = s.intake :=
  steady_intake (enterOpening_steady cause s)

@[simp] theorem closeWindowTest_intake : (closeWindowTest s).intake = s.intake :=
  steady_intake (closeWindowTest_steady s)

theorem openingReached_intake (x : Nat) : (openingReached x s).intake = s.intake := by
  unfold openingReached; split <;> rfl

theorem closingReached_intake (x : Nat) : (closingReached x s).intake = s.intake := by
  unfold closingReached; split
  · simp only
    have posted (l : List Nat) := foldl_view State.intake
      (fun s o => postStep o { s with day := { s.day with posted := s.day.posted ++ [o] } }) (fun s o => by simp) l s
    split
    · rw [enterClearing_intake, posted]
    · exact posted _
  · rfl

@[simp] theorem clockShows_intake (x : Nat) : (clockShows x s).intake = s.intake := by
  unfold clockShows
  rw [closingReached_intake, closeWindowTest_intake, openingReached_intake]
  rfl

@[simp] theorem clockTick_intake : (clockTick s).intake = s.intake := by
  unfold clockTick; split
  · split <;> simp
  · rfl

@[simp] theorem dayEvacuate_intake : (dayEvacuate s).intake = s.intake := by
  unfold dayEvacuate; split <;> simp

theorem clearingLimit_intake : (clearingLimit s).intake = s.intake := by
  unfold clearingLimit; split
  · rw [settle_intake]; exact steady_intake (enterShutting_steady ..)
  · rfl

theorem openingLimit_intake : (openingLimit s).intake = s.intake := by
  unfold openingLimit; split
  · rw [settle_intake]; exact steady_intake (enterTrading_steady ..)
  · rfl

theorem keyChange_intake (active : Bool) : (keyChange active s).intake = s.intake := by
  unfold keyChange; split
  · rfl
  · rw [settle_intake]

theorem keyHeld_intake : (keyHeld s).intake = s.intake := by
  unfold keyHeld; split
  · rw [settle_intake]
  · rfl

/-! ### The fire stages -/

@[simp] theorem enterAlert_intake (cause : FireCause) : (enterAlert cause s).intake = s.intake := by
  simp [enterAlert, changeFire]

@[simp] theorem firstGroups_intake (delay : Nat) : (firstGroups delay s).intake = s.intake := by
  unfold firstGroups; split <;> simp

@[simp] theorem enterEvacuate_intake (cause : FireCause) : (enterEvacuate cause s).intake = s.intake := by
  simp [enterEvacuate, forgetGroupOrders, changeFire]

@[simp] theorem toNormal_intake (cause : FireCause) : (toNormal cause s).intake = s.intake := rfl

@[simp] theorem setFromLines_intake : (setFromLines s).intake = s.intake := by
  unfold setFromLines; split
  · exact enterEvacuate_intake ..
  · split
    · exact enterAlert_intake ..
    · split <;> rfl

@[simp] theorem endStartUp_intake : (endStartUp s).intake = s.intake := by
  unfold endStartUp; split
  · simp only; split <;> simp
  · rfl

@[simp] theorem recordFault_intake (line : Line) (r : Reading) : (recordFault line r s).intake = s.intake := by
  cases r <;> rfl

@[simp] theorem startFailSafe_intake (line : Line) (r : Reading) : (startFailSafe line r s).intake = s.intake := by
  unfold startFailSafe; split <;> rfl

@[simp] theorem lineActive_intake (line : Line) : (lineActive line s).intake = s.intake := by
  cases line <;> unfold lineActive <;> simp only <;> split <;> simp

@[simp] theorem readingChange_intake (line : Line) (r : Reading) : (readingChange line r s).intake = s.intake := by
  unfold readingChange; split
  · rfl
  · simp only; split
    · simp
    · split <;> simp

@[simp] theorem startupTimeout_intake (line : Line) : (startupTimeout line s).intake = s.intake := by
  unfold startupTimeout; split <;> simp

@[simp] theorem fireEscalation_intake : (fireEscalation s).intake = s.intake := by
  unfold fireEscalation; split <;> simp

@[simp] theorem groupDueOrder_intake : (groupDueOrder s).intake = s.intake := by
  unfold groupDueOrder; split
  · split <;> simp
  · rfl

/-! ### The Commissioning Store's requests -/

@[simp] theorem lowerNewlyNightClose_intake (before : State) : (lowerNewlyNightClose before s).intake = s.intake := by
  unfold lowerNewlyNightClose; split
  · exact forShutters_view State.intake _ _ (fun n s => lowerOrder_intake s n) s
  · rfl

@[simp] theorem commissionUnit_intake (n : Nat) : (commissionUnit n s).intake = s.intake := by
  unfold commissionUnit; split <;> simp

theorem writeZoneEntry_intake (zone type group night hush : Byte) :
    (writeZoneEntry zone type group night hush s).2.intake = s.intake := by
  unfold writeZoneEntry; simp only; split <;> simp [refuse]

theorem writeShutter_intake (index : Byte) (w : ShutterWrite) : (writeShutter index w s).2.intake = s.intake := by
  unfold writeShutter; simp only; split
  · simp only [settle_intake, lowerNewlyNightClose_intake]
    split
    · rfl
    · split <;> simp
  · rfl

theorem writeChain_intake (f : ChainFields) : (writeChain f s).2.intake = s.intake := by
  unfold writeChain; simp only; split <;> simp [refuse]

theorem writeLanding_intake (index present : Byte) (up dn : BitVec 16) :
    (writeLanding index present up dn s).2.intake = s.intake := by
  unfold writeLanding; simp only; split <;> simp [refuse]

theorem writeFilter_intake (index enabled kind first second action night : Byte) :
    (writeFilter index enabled kind first second action night s).2.intake = s.intake := by
  unfold writeFilter; simp only; split <;> simp [refuse]

theorem writePhrase_intake (index : Byte) (start length : BitVec 24) :
    (writePhrase index start length s).2.intake = s.intake := by
  unfold writePhrase; simp only; split <;> simp [refuse]

theorem writeFireScript_intake (name : Byte) (f : ScriptFields) : (writeFireScript name f s).2.intake = s.intake := by
  unfold writeFireScript; simp only; split <;> simp [refuse]

theorem writeClosingStep_intake (index : Byte) (w : ClosingWrite) :
    (writeClosingStep index w s).2.intake = s.intake := by
  unfold writeClosingStep; simp only; split <;> simp [refuse]

theorem writeTimings_intake (f : TimingFields) : (writeTimings f s).2.intake = s.intake := by
  unfold writeTimings; split <;> simp [refuse]

theorem lockCommission_intake : (lockCommission s).2.intake = s.intake := by
  unfold lockCommission; split
  · rfl
  · split
    · rfl
    · split <;> rfl

theorem serveSave_intake : (serveSave s).2.intake = s.intake := by
  unfold serveSave; split <;> rfl

/-! ### The other requests -/

theorem serveSetTime_intake (t : BitVec 24) : (serveSetTime t s).2.intake = s.intake := by
  unfold serveSetTime; split
  · rfl
  · split <;> simp [refuse, okReport]

theorem serveSetSchedule_intake (opening closing : BitVec 24) (wakeOn planOn : Byte) :
    (serveSetSchedule opening closing wakeOn planOn s).2.intake = s.intake := by
  unfold serveSetSchedule; split
  · split
    · rfl
    · split <;> simp [refuse, okReport]
  · rfl

theorem serveOpenNow_intake : (serveOpenNow s).2.intake = s.intake := by
  unfold serveOpenNow; split
  · rfl
  · cases s.day.state <;> simp [refuse, okReport]

theorem serveCloseNow_intake : (serveCloseNow s).2.intake = s.intake := by
  unfold serveCloseNow
  cases s.day.state <;> simp [refuse, okReport]

theorem serveSetWake_intake (keyEnable clearFlags : Byte) : (serveSetWake keyEnable clearFlags s).2.intake = s.intake := by
  unfold serveSetWake; split
  · split
    · rfl
    · simp only [okReport, settle_intake]
      split <;> rfl
  · rfl

theorem serveChainStart_intake : (serveChainStart s).2.intake = s.intake := by
  unfold serveChainStart
  split; · rfl
  split; · rfl
  split; · rfl
  split; · rfl
  split; · rfl
  simp

theorem serveChainStop_intake : (serveChainStop s).2.intake = s.intake := by
  simp [serveChainStop]

theorem serveChainPark_intake : (serveChainPark s).2.intake = s.intake := by
  unfold serveChainPark
  cases s.chain.state <;> simp [refuse]

theorem serveChainReset_intake : (serveChainReset s).2.intake = s.intake := by
  unfold serveChainReset; split
  · split <;> simp [refuse]
  · rfl

theorem serveShutterLower_intake (index : Byte) : (serveShutterLower index s).2.intake = s.intake := by
  unfold serveShutterLower; simp only; split
  · rfl
  · split <;> simp [refuse, answer]

theorem serveShutterRaise_intake (index : Byte) : (serveShutterRaise index s).2.intake = s.intake := by
  unfold serveShutterRaise; simp only; split
  · rfl
  · simp only [answer]
    split <;> simp

theorem serveFireReport_intake (floor : Byte) : (serveFireReport floor s).2.intake = s.intake := by
  unfold serveFireReport
  split; · rfl
  split; · rfl
  split; · rfl
  simp [answer]

theorem serveFireReset_intake : (serveFireReset s).2.intake = s.intake := by
  unfold serveFireReset
  split; · rfl
  split; · rfl
  split <;> simp [refuse]

theorem serveAckCalls_intake (queue slot : Byte) (expected : Option Byte) :
    (serveAckCalls queue slot expected s).2.intake = s.intake := by
  unfold serveAckCalls; split
  · rfl
  · simp only; split
    · rfl
    · split
      · rfl
      · split
        · rfl
        · simp [answer, (acknowledge_queuesOnly ..).intake]

theorem servePost_intake (slot : Byte) (f : PostFields) : (servePost slot f s).2.intake = s.intake := by
  unfold servePost; simp only
  split; · rfl
  split; · rfl
  split; · rfl
  split; · rfl
  split; · rfl
  split; · rfl
  simp [answer]

theorem serveCancel_intake (slot : Byte) : (serveCancel slot s).2.intake = s.intake := by
  have cancelled := cancelSlot_intake s slot.toNat
  unfold serveCancel; split
  · rfl
  · split
    · next h => rw [h] at cancelled; exact cancelled
    · next h => rw [h] at cancelled; simpa using cancelled

theorem serveAckLog_intake (index : Byte) : (serveAckLog index s).2.intake = s.intake := by
  unfold serveAckLog; split <;> rfl

theorem serveArmNotices_intake (set : BitVec 16) : (serveArmNotices set s).2.intake = s.intake := by
  unfold serveArmNotices; split <;> rfl

theorem serveClearLatch_intake (set : BitVec 16) : (serveClearLatch set s).2.intake = s.intake := by
  unfold serveClearLatch; split
  · rfl
  · split <;> rfl

/-- Of all requests only a write of the site entry reaches the call loop (R94). -/
theorem serve_intake {r : Request} (hr : ∀ presence counting floor, r ≠ .writeZone (.site presence counting floor)) :
    (serve r s).2.intake = s.intake := by
  cases r with
  | setTime => exact serveSetTime_intake ..
  | setSchedule => exact serveSetSchedule_intake ..
  | openNow => exact serveOpenNow_intake s
  | closeNow => exact serveCloseNow_intake s
  | setWake => exact serveSetWake_intake ..
  | writeZone w =>
    cases w with
    | entry => exact writeZoneEntry_intake ..
    | site presence counting floor => exact absurd rfl (hr presence counting floor)
  | writeShutter => exact writeShutter_intake ..
  | writeChain => exact writeChain_intake ..
  | writeLanding => exact writeLanding_intake ..
  | writeFilter => exact writeFilter_intake ..
  | writePhrase => exact writePhrase_intake ..
  | writeFireScript => exact writeFireScript_intake ..
  | writeClosingStep => exact writeClosingStep_intake ..
  | writeTimings => exact writeTimings_intake ..
  | lockCommission => exact lockCommission_intake s
  | saveSettings => exact serveSave_intake s
  | chainStart => exact serveChainStart_intake s
  | chainStop => exact serveChainStop_intake s
  | chainPark => exact serveChainPark_intake s
  | chainReset => exact serveChainReset_intake s
  | shutterLower => exact serveShutterLower_intake ..
  | shutterRaise => exact serveShutterRaise_intake ..
  | fireReport => exact serveFireReport_intake ..
  | fireReset => exact serveFireReset_intake s
  | ackCalls => exact serveAckCalls_intake ..
  | postAnnouncement => exact servePost_intake ..
  | cancelAnnouncement => exact serveCancel_intake ..
  | ackLog => exact serveAckLog_intake ..
  | armNotices => exact serveArmNotices_intake ..
  | clearLatch => exact serveClearLatch_intake ..
  | getStatus | restart | readZone | readShutter | readChain | readFilter | chainStatus | openingQuery | shutterStatus
  | fireStatus | readCalls | loopStatus | announceStatus | readLog => rfl

/-! ### The service link -/

theorem receiveGap_intake : (receiveGap s).intake = s.intake := by
  unfold receiveGap; split <;> rfl

theorem beginReply_intake : (beginReply s).intake = s.intake := by
  unfold beginReply; split <;> rfl

theorem beginNotice_intake : (beginNotice s).intake = s.intake := by
  unfold beginNotice; split <;> rfl

theorem answerSave_intake (good : Bool) : (answerSave good s).intake = s.intake := by
  unfold answerSave; split <;> rfl

end

end Sys2Proof.Machine
end

section
/-! The lamps of a poll (R95): what they show when it begins, and every command that begins one (O47). -/

namespace Sys2Proof.Machine

/-! ### The lamp nibble -/

theorem holdsCode_iff {code : Nat} {x : Queue} : x.holdsCode code = true ↔ ∃ r ∈ x.calls, r.code = code := by
  simp [Queue.holdsCode]

/-- Four lamps added up by their weights are the four bits of the nibble (R95). -/
theorem getLsbD_nibble (lit : Nat → Bool) {b : Nat} (hb : b < 4) :
    (BitVec.ofNat 4 ((if lit 0 then 1 else 0) + (if lit 1 then 2 else 0) + (if lit 2 then 4 else 0) +
      (if lit 3 then 8 else 0))).getLsbD b = lit b := by
  have weighed : ∀ l₀ l₁ l₂ l₃ : Bool, ∀ k : Fin 4,
      (BitVec.ofNat 4 ((if l₀ then 1 else 0) + (if l₁ then 2 else 0) + (if l₂ then 4 else 0) +
        (if l₃ then 8 else 0))).getLsbD k = [l₀, l₁, l₂, l₃][k] := by decide
  rw [weighed (lit 0) (lit 1) (lit 2) (lit 3) ⟨b, hb⟩]
  match b, hb with
  | 0, _ | 1, _ | 2, _ | 3, _ => rfl

/-- A lamp is lit exactly when a record of its code stands in either queue (R95). -/
theorem lampNibble_getLsbD {s : State} {station b : Nat} (hb : b < 4) :
    (s.lampNibble station).getLsbD b = true ↔
      ∃ r, r.code = 4 * station + b ∧ (r ∈ s.calls.counting.calls ∨ r ∈ s.calls.floor.calls) := by
  have bit : (s.lampNibble station).getLsbD b =
      (s.calls.counting.holdsCode (4 * station + b) || s.calls.floor.holdsCode (4 * station + b)) :=
    getLsbD_nibble (fun b => s.calls.counting.holdsCode (4 * station + b) || s.calls.floor.holdsCode (4 * station + b)) hb
  rw [bit, Bool.or_eq_true, holdsCode_iff, holdsCode_iff, ← exists_or]
  exact exists_congr fun r => by tauto

/-- The lamps depend on the records of the queues alone. -/
theorem lampNibble_congr {s t : State} (hc : t.calls.counting.calls = s.calls.counting.calls)
    (hf : t.calls.floor.calls = s.calls.floor.calls) (station : Nat) : t.lampNibble station = s.lampNibble station :=
  BitVec.eq_of_getLsbD_eq fun b hb => by
    rw [Bool.eq_iff_iff, lampNibble_getLsbD hb, lampNibble_getLsbD hb, hc, hf]

/-! ### Right lamps -/

/-- The poll in progress, if there is one, carries the lamps that the queues ask for (R95). -/
def State.lampsShow (s : State) : Prop :=
  ∀ poll, s.intake.poll = some poll → poll.lamps = s.lampNibble poll.station

/-- From `s` to `t` the poll in progress is the same one, or else its lamps are right in `t`. -/
def LampsFollow (s t : State) : Prop := t.intake.poll = s.intake.poll ∨ t.lampsShow

section
variable {s t : State}

theorem lampsShow_of_no_poll (h : s.intake.poll = none) : s.lampsShow := fun _ hp => nomatch h.symm.trans hp

theorem LampsFollow.of_intake (h : t.intake = s.intake) : LampsFollow s t := .inl (congrArg Intake.poll h)

/-- What follows a change moves no record, so that lamps that are right stay right. -/
theorem State.lampsShow.settle (h : s.lampsShow) : (settle s).lampsShow := by
  intro poll hp
  rw [settle_intake] at hp
  rw [h poll hp, lampNibble_congr (settle_countingCalls s) (settle_floorCalls s)]

theorem LampsFollow.settle (h : LampsFollow s t) : LampsFollow s (Machine.settle t) :=
  h.imp (fun same => by rw [settle_intake, same]) State.lampsShow.settle

/-- A poll begins with right lamps (R95). -/
theorem beginPoll_lampsShow (station : Option Nat) (s : State) : (beginPoll station s).lampsShow := by
  intro poll hp
  obtain ⟨n, -, rfl⟩ := Option.map_eq_some_iff.mp (show station.map _ = some poll from hp)
  rfl

theorem firstPoll_lampsFollow (s : State) : LampsFollow s (firstPoll s) := by
  unfold firstPoll; split
  · exact .inl rfl
  · exact .inr (beginPoll_lampsShow _ _)

theorem firstPoll_lampsShow (h : s.intake.poll = none) : (firstPoll s).lampsShow :=
  (firstPoll_lampsFollow s).elim (fun same => lampsShow_of_no_poll (same.trans h)) id

theorem presenceWritten_lampsFollow (s : State) : LampsFollow s (presenceWritten s) := by
  unfold presenceWritten; split
  · exact .inl rfl
  · exact firstPoll_lampsFollow s

theorem lineQuiet_lampsFollow (s : State) : LampsFollow s (lineQuiet s) := by
  unfold lineQuiet; split
  · exact firstPoll_lampsFollow (setIntake { s.intake with quietWait := false } s)
  · exact .inl rfl

end

/-! ### The end of a poll -/

theorem pollEnds_lampsShow (station : Nat) (o : Outcome) (s : State) : (pollEnds station o s).lampsShow :=
  beginPoll_lampsShow _ _

theorem pollReplyEnd_lampsShow (b : Byte) (bytes : List Byte) (stopBits : Bool) (s : State) :
    (pollReplyEnd (b :: bytes) stopBits s).lampsShow := by
  cases hp : s.intake.poll with
  | none => simpa only [pollReplyEnd, hp] using lampsShow_of_no_poll hp
  | some p => simpa only [pollReplyEnd, hp] using pollEnds_lampsShow p.station _ s

theorem pollReplyTimeout_lampsShow (s : State) : (pollReplyTimeout s).lampsShow := by
  cases hp : s.intake.poll with
  | none => simpa only [pollReplyTimeout, hp] using lampsShow_of_no_poll hp
  | some p => simpa only [pollReplyTimeout, hp] using pollEnds_lampsShow p.station _ s

theorem pollReplyEnd_nil (stopBits : Bool) (s : State) : pollReplyEnd [] stopBits s = s := by
  cases hp : s.intake.poll <;> simp only [pollReplyEnd, hp]

/-! ### Resets and the restart -/

theorem powerOn_lampsShow (bank0Lost bank1Lost : Bool) (s : State) : (powerOn bank0Lost bank1Lost s).lampsShow :=
  firstPoll_lampsShow rfl

theorem pinReset_lampsShow (bank0Lost bank1Lost : Bool) (s : State) : (pinReset bank0Lost bank1Lost s).lampsShow := by
  unfold pinReset
  refine firstPoll_lampsShow ?_
  split <;> rfl

theorem leaveUnconfigured_lampsShow (s : State) : (leaveUnconfigured s).lampsShow := by
  unfold leaveUnconfigured
  refine (firstPoll_lampsShow ?_).settle
  simp only [apply_ite State.intake, setFromLines_intake, statesFromLimits_intake, ite_self]
  rfl

theorem restart_lampsShow (s : State) : (restart s).lampsShow := (firstPoll_lampsShow rfl).settle

theorem saveComplete_lampsFollow (good : Bool) (s : State) : LampsFollow s (saveComplete good s) := by
  unfold saveComplete; split
  · exact .inl rfl
  · simp only; split
    · exact .inr (leaveUnconfigured_lampsShow _)
    · exact .of_intake (answerSave_intake _ good)

/-! ### Requests and their frames -/

/-- From `s` to `t` the poll in progress is the same one, or else a request now in the serving place has begun it. While that
request is served no other can be taken, so that the lamps of the poll stay right. -/
def ServedFollows (s t : State) : Prop := t.intake.poll = s.intake.poll ∨ (t.lampsShow ∧ t.link.serving ≠ none)

section
variable {s t u : State}

theorem ServedFollows.lampsFollow (h : ServedFollows s t) : LampsFollow s t := h.imp_right And.left

theorem ServedFollows.of_intake (h : t.intake = s.intake) : ServedFollows s t := .inl (congrArg Intake.poll h)

/-- A step from a state with the same poll in progress. -/
theorem ServedFollows.after (h : ServedFollows t u) (same : t.intake.poll = s.intake.poll) : ServedFollows s u :=
  h.imp_left (·.trans same)

theorem ServedFollows.pushReply (h : ServedFollows s t) (held : Held) (payload : List Byte) (answers : ReplyFor) :
    ServedFollows s (pushReply held payload answers t) := h

end

theorem presenceWritten_link (s : State) : (presenceWritten s).link = s.link := by
  unfold presenceWritten; split
  · rfl
  · unfold firstPoll; split <;> rfl

/-- A write of the site entry is the one request that may begin a poll. -/
theorem writeSite_servedFollows (presence : BitVec 64) (counting floor : Byte) {s : State} (hs : s.link.serving ≠ none) :
    ServedFollows s (writeSite presence counting floor s).2 := by
  have followed (tables : Tables) : LampsFollow s (presenceWritten (setTables tables s)) :=
    presenceWritten_lampsFollow (setTables tables s)
  unfold writeSite; simp only; split
  · exact .inl rfl
  · dsimp only
    rcases (followed _).settle with same | shown
    · exact .inl same
    · refine .inr ⟨shown, ?_⟩
      rw [settle_serving, presenceWritten_link]
      exact hs

theorem carryOut_servedFollows (h : Held) (r : Request) {s : State} (hs : s.link.serving ≠ none) :
    ServedFollows s (carryOut h r s) := by
  by_cases hr : ∃ presence counting floor, r = .writeZone (.site presence counting floor)
  · obtain ⟨presence, counting, floor, rfl⟩ := hr
    unfold carryOut; split
    · exact .inl rfl
    · exact (writeSite_servedFollows presence counting floor hs).pushReply h _ .serving
  · have served := serve_intake s fun presence counting floor e => hr ⟨presence, counting, floor, e⟩
    unfold carryOut; split
    · exact .inl rfl
    · split <;> (next heq => rw [heq] at served; exact .of_intake served)

theorem takeRequest_servedFollows (h : Held) (s : State) : ServedFollows s (takeRequest h s) := by
  unfold takeRequest; simp only; split
  · exact .inl rfl
  · exact .inl rfl
  · exact (carryOut_servedFollows h _ (Option.some_ne_none h)).after rfl

theorem arrive_servedFollows (h : Held) (s : State) : ServedFollows s (arrive h s) := by
  unfold arrive; split
  · exact takeRequest_servedFollows h s
  · exact .inl rfl
  · exact .inl rfl

theorem completeFrame_servedFollows (bytes : List Byte) (s : State) : ServedFollows s (completeFrame bytes s) := by
  unfold completeFrame; simp only; split
  · split
    · exact (arrive_servedFollows ..).after rfl
    · exact .inl rfl
  · exact .inl rfl

theorem receiveByte_servedFollows (b : Byte) (stopBit : Bool) (s : State) : ServedFollows s (receiveByte b stopBit s) := by
  unfold receiveByte; split
  · split <;> exact .inl rfl
  · simp only; split
    · exact .inl rfl
    · split
      · exact completeFrame_servedFollows ..
      · exact .inl rfl

/-! ### Bytes while a request is served -/

/-- From `s` to `t` only the service link has changed, and a request is being served. -/
def LinkOnly (s t : State) : Prop := t = { s with link := t.link } ∧ t.link.serving ≠ none

theorem arrive_linkOnly (h : Held) {s : State} (hs : s.link.serving ≠ none) : LinkOnly s (arrive h s) := by
  unfold arrive; split
  · next free => exact absurd free hs
  · exact ⟨rfl, hs⟩
  · exact ⟨rfl, hs⟩

theorem completeFrame_linkOnly (bytes : List Byte) {s : State} (hs : s.link.serving ≠ none) :
    LinkOnly s (completeFrame bytes s) := by
  unfold completeFrame; simp only; split
  · split
    · exact arrive_linkOnly _ (s := setLink { s.link with partialFrame := none } s) hs
    · exact ⟨rfl, hs⟩
  · exact ⟨rfl, hs⟩

/-- A byte that comes while a request is served reaches the link alone: a frame it completes is held or discarded (R174). -/
theorem receiveByte_linkOnly (b : Byte) (stopBit : Bool) {s : State} (hs : s.link.serving ≠ none) :
    LinkOnly s (receiveByte b stopBit s) := by
  unfold receiveByte; split
  · split <;> exact ⟨rfl, hs⟩
  · simp only; split
    · exact ⟨rfl, hs⟩
    · split
      · exact completeFrame_linkOnly _ hs
      · exact ⟨rfl, hs⟩

theorem LinkOnly.lampsShow {s t : State} (h : LinkOnly s t) (shown : s.lampsShow) : t.lampsShow := by
  rw [h.1]
  exact shown

/-- Bytes on the service line, one request of which at most begins a poll. -/
theorem receiveBytes_servedFollows (bytes : List Byte) (s : State) : ServedFollows s (receiveBytes bytes s) := by
  suffices ∀ u, ServedFollows s u → ServedFollows s (receiveBytes bytes u) from this s (.inl rfl)
  induction bytes with
  | nil => exact fun u h => h
  | cons b bytes ih =>
    refine fun u h => ih _ ?_
    rcases h with same | ⟨shown, served⟩
    · exact (receiveByte_servedFollows b true u).after same
    · have held := receiveByte_linkOnly b true served
      exact .inr ⟨held.lampsShow shown, held.2⟩

/-! ### The ends of frames -/

theorem freeServing_lampsFollow (s : State) : LampsFollow s (freeServing s) := by
  unfold freeServing; split
  · exact .inl rfl
  · exact ((takeRequest_servedFollows ..).after rfl).lampsFollow

theorem restartTakesEffect_lampsFollow (s : State) : LampsFollow s (restartTakesEffect s) := by
  unfold restartTakesEffect; split
  · exact .inr (restart_lampsShow s)
  · exact .inl rfl

theorem frameSent_lampsFollow (s : State) : LampsFollow s (frameSent s) := by
  unfold frameSent; split
  · exact .inl rfl
  · exact .inl rfl
  · simp only; split
    · exact freeServing_lampsFollow (setLink { s.link with sending := none } s)
    · exact .inl rfl
    · exact .inr (restart_lampsShow _)

/-! ### The commands -/

/-- An event leaves the poll in progress, or begins one with right lamps. -/
theorem event_lampsFollow {c : Instr} (s : State) (hr : c.request? = none) :
    ∃ t, exec c s = .next t ∧ LampsFollow s t := by
  cases c with
  | powerOnReset => exact ⟨_, rfl, .inr (powerOn_lampsShow _ _ s)⟩
  | pinReset => exact ⟨_, rfl, .inr (pinReset_lampsShow _ _ s)⟩
  | frameComplete bytes => exact ⟨_, rfl, (receiveBytes_servedFollows bytes s).lampsFollow⟩
  | serviceLineByteArrives byte stopBit => exact ⟨_, rfl, (receiveByte_servedFollows byte stopBit s).lampsFollow⟩
  | badKindRequest => exact ⟨_, rfl, (arrive_servedFollows ..).lampsFollow⟩
  | frameSent => exact ⟨_, rfl, frameSent_lampsFollow s⟩
  | restartTakesEffect => exact ⟨_, rfl, restartTakesEffect_lampsFollow s⟩
  | saveComplete good => exact ⟨_, rfl, saveComplete_lampsFollow good s⟩
  | firstPollAfterRestart => exact ⟨_, rfl, lineQuiet_lampsFollow s⟩
  | pollReplyTimeout => exact ⟨_, rfl, .inr (pollReplyTimeout_lampsShow s)⟩
  | pollReplyEnd bytes stopBits =>
    cases bytes with
    | nil => exact ⟨_, rfl, .of_intake (congrArg State.intake (pollReplyEnd_nil stopBits s))⟩
    | cons b bytes => exact ⟨_, rfl, .inr (pollReplyEnd_lampsShow b bytes stopBits s)⟩
  | receiveGapTimeout => exact ⟨_, rfl, .of_intake (receiveGap_intake s)⟩
  | replySendStart => exact ⟨_, rfl, .of_intake (beginReply_intake s)⟩
  | noticeSendStart => exact ⟨_, rfl, .of_intake (beginNotice_intake s)⟩
  | encoderStep forward => exact ⟨_, rfl, .settle (.of_intake (encoderStep_intake s forward))⟩
  | indexPulse => exact ⟨_, rfl, .settle (.of_intake (indexCheck_intake s))⟩
  | speedWindowComplete => exact ⟨_, rfl, .settle (.of_intake (t := windowComplete s) rfl)⟩
  | stepOffDwellElapsed => exact ⟨_, rfl, .of_intake (dwellElapsed_intake s)⟩
  | driveOkChange => exact ⟨_, rfl, .of_intake (driveOkChange_intake ..)⟩
  | syncRunLimit => exact ⟨_, rfl, .of_intake (syncRunLimit_intake s)⟩
  | clearOutComplete => exact ⟨_, rfl, .of_intake (clearOutComplete_intake s)⟩
  | shutterFirstReading => exact ⟨_, rfl, .of_intake (firstReading_intake ..)⟩
  | shutterInputChange => exact ⟨_, rfl, .of_intake (inputChange_intake ..)⟩
  | slowDrop | slowFinal | raiseTimeout | obstructionResume | obstructedRetry =>
    exact ⟨_, rfl, .of_intake (whenUnit_intake ..)⟩
  | fireLineReadingChange => exact ⟨_, rfl, .settle (.of_intake (readingChange_intake ..))⟩
  | startupReadTimeout => exact ⟨_, rfl, .settle (.of_intake (startupTimeout_intake ..))⟩
  | escalationTimeout => exact ⟨_, rfl, .settle (.of_intake (fireEscalation_intake s))⟩
  | evacGroupDue => exact ⟨_, rfl, .settle (.of_intake (groupDueOrder_intake s))⟩
  | callEscalationTimeout => exact ⟨_, rfl, .settle (.of_intake (escalate_queuesOnly ..).intake)⟩
  | localAcknowledge => exact ⟨_, rfl, .settle (.of_intake (localAcknowledge_queuesOnly ..).intake)⟩
  | annunciatorGroupEnd => exact ⟨_, rfl, .settle (.of_intake (groupEnd_queuesOnly ..).intake)⟩
  | annunciatorGroupDue => exact ⟨_, rfl, .settle (.of_intake (groupDue_queuesOnly ..).intake)⟩
  | chimeEnd => exact ⟨_, rfl, .settle (.of_intake (steady_intake (chimeEnd_steady s)))⟩
  | phraseEnd => exact ⟨_, rfl, .settle (.of_intake (steady_intake (phraseEnd_steady s)))⟩
  | gapEnd => exact ⟨_, rfl, .of_intake (gapEnd_intake s)⟩
  | repeatTimeExpiry => exact ⟨_, rfl, .of_intake (repeatExpires_intake ..)⟩
  | alertRepeatTimeout => exact ⟨_, rfl, .of_intake (alertRepeat_intake s)⟩
  | evacRepeatTimeout => exact ⟨_, rfl, .of_intake (evacRepeat_intake s)⟩
  | storeClockTick => exact ⟨_, rfl, .settle (.of_intake (clockTick_intake s))⟩
  | clearingLimitTimeout => exact ⟨_, rfl, .of_intake (clearingLimit_intake s)⟩
  | watchmanKeyChange => exact ⟨_, rfl, .of_intake (keyChange_intake ..)⟩
  | keyHoldComplete => exact ⟨_, rfl, .of_intake (keyHeld_intake s)⟩
  | openingLimitTimeout => exact ⟨_, rfl, .of_intake (openingLimit_intake s)⟩
  | _ => exact nomatch hr

/-- Whatever command is carried out, the poll in progress is the same one as before, or else its lamps are right. -/
theorem exec_lampsFollow {c : Instr} {s t : State} (h : exec c s = .next t) : LampsFollow s t := by
  cases hr : c.request? with
  | some request =>
    cases (exec_arrives s hr).symm.trans h
    exact (arrive_servedFollows ..).lampsFollow
  | none =>
    obtain ⟨u, hu, follows⟩ := event_lampsFollow s hr
    cases hu.symm.trans h
    exact follows

/-- Settles O47: a poll that was not in progress before carries right lamps by `exec_lampsFollow`, and the one that begins at
the end of a poll, which may look like the one before it, by `pollEnds_lampsShow`. -/
theorem lampsShowQueues : Obligations.LampsShowQueues := by
  unfold Obligations.LampsShowQueues
  intro c s t poll h hp begins b hb
  have shown : t.lampsShow := by
    rcases begins with other | ⟨first, bytes, stop, rfl⟩ | rfl
    · exact (exec_lampsFollow h).resolve_left fun same => other (same.symm.trans hp)
    · cases h; exact pollReplyEnd_lampsShow first bytes stop s
    · cases h; exact pollReplyTimeout_lampsShow s
  rw [shown poll hp]
  exact lampNibble_getLsbD hb

end Sys2Proof.Machine
end

section
/-! A press (R103 to R109): its decision by the filter list, the record and the stop push it hands on, and the presses of a
good reply (O48). -/

namespace Sys2Proof.Machine

/-! ### The decision -/

/-- The condition under which an entry of the filter list decides a press (R7, R104). -/
def FilterEntry.decides (shut : Bool) (code : Nat) (f : FilterEntry) : Bool := f.tested shut && f.matches code

theorem matches_iff {code : Nat} {f : FilterEntry} : f.matches code = true ↔
    (f.kind = .range ∧ f.first ≤ code ∧ code ≤ f.second) ∨ (f.kind = .pair ∧ (code = f.first ∨ code = f.second)) ∨
      (f.kind = .mask ∧ code &&& f.second = f.first &&& f.second) := by
  unfold FilterEntry.matches
  cases f.kind <;> simp

theorem decides_iff {shut : Prop} [Decidable shut] {code : Nat} {f : FilterEntry} : f.decides shut code = true ↔
    f.enabled = true ∧ (shut → f.night = true) ∧ f.matches code = true := by
  have night : (!decide shut || f.night) = true ↔ (shut → f.night = true) := by simp [imp_iff_not_or]
  rw [FilterEntry.decides, FilterEntry.tested, Bool.and_eq_true, Bool.and_eq_true, night, and_assoc]

section
variable {s : State} {code : Nat}

/-- The first entry that matches decides (R104). -/
theorem decidePress_of_first {i : Nat} {f : FilterEntry} (hf : s.store.tables.filters[i]? = some f)
    (decides : f.decides (s.day.state = .shut) code = true)
    (first : ∀ k < i, ∀ g, s.store.tables.filters[k]? = some g → g.decides (s.day.state = .shut) code = false) :
    s.decidePress code = (some i, f.action) := by
  obtain ⟨hi, rfl⟩ := List.getElem?_eq_some_iff.mp hf
  have found : s.store.tables.filters.findIdx? (FilterEntry.decides (s.day.state = .shut) code) = some i :=
    List.findIdx?_eq_some_iff_getElem.mpr
      ⟨hi, decides, fun k hk => by simp [first k hk _ (List.getElem?_eq_getElem (hk.trans hi))]⟩
  unfold FilterEntry.decides at found
  simp only [State.decidePress, found, hf, Option.map_some, Option.getD_some]

/-- A press that no entry matches is taken by the default unmatched action, and turned away in SHUT (R105). -/
theorem decidePress_of_unmatched
    (none_decides : ∀ f ∈ s.store.tables.filters, f.decides (s.day.state = .shut) code = false) :
    s.decidePress code = (none,
      if s.day.state ≠ .shut ∧ s.store.timing.unmatchedToFloor = true then .toFloor else .reject) := by
  have missed : s.store.tables.filters.findIdx? (FilterEntry.decides (s.day.state = .shut) code) = none :=
    List.findIdx?_eq_none_iff.mpr none_decides
  unfold FilterEntry.decides at missed
  simp only [State.decidePress, missed]
  by_cases shut : s.day.state = .shut <;> simp [shut]

/-- In EVACUATE an ordinary call is turned away (R106). -/
theorem taken_eq (decided : Action) : s.taken decided =
    if s.fire.state = .evacuate ∧ (decided = .toCounting ∨ decided = .toFloor) then .reject else decided := by
  cases decided <;> simp [State.taken]

end

/-! ### The record handed on -/

/-- The record of a press handed to the queue of the action taken, if it has one (R107). -/
def fileCall (code : Nat) (filter : Option Nat) (taken : Action) (s : State) : State :=
  match taken.queue? with
  | some q => arriveCall q ⟨code, filter, taken.urgent, false, 0, s.day.clock⟩ false s
  | none => s

section
variable (code : Nat) (filter : Option Nat) (taken : Action) (s : State)

theorem fileCall_queuesOnly : QueuesOnly s (fileCall code filter taken s) := by
  unfold fileCall; split
  · exact arriveCall_queuesOnly ..
  · exact .refl s

theorem fileCall_setIntake (i : Intake) :
    fileCall code filter taken (setIntake i s) = setIntake i (fileCall code filter taken s) := by
  unfold fileCall
  cases taken.queue? with
  | none => rfl
  | some q => exact arriveCall_setIntake ..

end

/-! ### The stop push -/

section
variable (code : Nat) {s : State} {h : HaltRec}

/-- A stop push places its code in the stop-push set, and beside the set it reaches nothing steady (R36, R37). -/
theorem stopPush_steady (s : State) : (stopPush code s).steady =
    { s.steady with stopPushes := s.chain.stopPushes ||| BitVec.twoPow 256 code } := by
  unfold stopPush; split
  · rfl
  · rw [haltNow, raise_steady (c := .chainHalt) rfl]
    simp [State.steady, restFix_eq]

theorem stopPush_halts (unhalted : ∀ h, s.chain.state ≠ .halted h) : (stopPush code s).chain.state =
    .halted ⟨.stopPush, some code, s.chain.state.phase, s.chain.p, s.chain.synced, s.day.clock⟩ := by
  unfold stopPush; split
  · next h halted => exact absurd halted (unhalted h)
  · simp [haltNow, restFix_eq]

theorem stopPush_of_halted (halted : s.chain.state = .halted h) : (stopPush code s).chain.state = .halted h := by
  simp only [stopPush, halted]

/-- A halted chain stays halted through what follows a change (R36). -/
theorem settle_halted (halted : s.chain.state = .halted h) : (settle s).chain.state = .halted h := by
  have still : s.chain.state.runs = false := by rw [halted]; rfl
  rw [settle_chain_of_still still]
  simp only [Chain.rested, halted]

end

/-! ### A press in full -/

/-- The stop push of a press whose action taken is CHAIN_STOP (R108). -/
def stopIfAsked (taken : Action) (code : Nat) (s : State) : State :=
  if taken = .chainStop then stopPush code s else s

/-- A press by its parts: the record filed, the last-press record and the counts, the stop push, and what follows. -/
theorem press_eq {station button : Nat} {filter : Option Nat} {decided taken : Action} {s : State}
    (hd : s.decidePress (4 * station + button) = (filter, decided)) (ht : s.taken decided = taken) :
    press station button s = settle (stopIfAsked taken (4 * station + button)
      (setIntake (countPress station button filter decided taken s).intake
        (fileCall (4 * station + button) filter taken s))) := by
  subst ht
  unfold press
  simp only [hd]
  rw [← fileCall_setIntake]
  rfl

section
variable {station button code : Nat} {s u : State} {taken : Action} {i : Intake}

theorem stopIfAsked_steady (hc : u.chain = s.chain) : (stopIfAsked taken code (setIntake i u)).steady =
    { u.steady with
      intake := i
      stopPushes := if taken = .chainStop then s.chain.stopPushes ||| BitVec.twoPow 256 code
        else s.chain.stopPushes } := by
  unfold stopIfAsked
  rw [← hc]
  split
  · exact stopPush_steady code (setIntake i u)
  · rfl

theorem stopIfAsked_of_halted {h : HaltRec} (halted : u.chain.state = .halted h) :
    (stopIfAsked taken code u).chain.state = .halted h := by
  unfold stopIfAsked; split
  · exact stopPush_of_halted code halted
  · exact halted

end

section
variable {station button : Nat} {filter : Option Nat} {decided taken : Action} {s : State}

/-- The last-press record and the counts of a press (R109). -/
theorem countPress_intake : (countPress station button filter decided taken s).intake = { s.intake with
    lastPress := some ⟨station, button, 4 * station + button, filter, decided, taken, s.day.clock⟩
    accepted := if taken = .reject then s.intake.accepted else min (s.intake.accepted + 1) 65535
    rejected := if taken = .reject then min (s.intake.rejected + 1) 65535 else s.intake.rejected } := by
  cases taken <;> rfl

/-- The steady part that a press leaves. -/
theorem press_steady (hd : s.decidePress (4 * station + button) = (filter, decided)) (ht : s.taken decided = taken) :
    (press station button s).steady = { (fileCall (4 * station + button) filter taken s).steady with
      intake := (countPress station button filter decided taken s).intake
      stopPushes := if taken = .chainStop then s.chain.stopPushes ||| BitVec.twoPow 256 (4 * station + button)
        else s.chain.stopPushes } := by
  rw [press_eq hd ht, settle_steady]
  exact stopIfAsked_steady (fileCall_queuesOnly ..).chain

/-- A CHAIN_STOP halts a chain that is not HALTED (R36, R108). -/
theorem press_halts (hd : s.decidePress (4 * station + button) = (filter, decided)) (ht : s.taken decided = .chainStop)
    (unhalted : ∀ h, s.chain.state ≠ .halted h) : (press station button s).chain.state =
      .halted ⟨.stopPush, some (4 * station + button), s.chain.state.phase, s.chain.p, s.chain.synced, s.day.clock⟩ := by
  have filed := fileCall_queuesOnly (4 * station + button) filter .chainStop s
  rw [press_eq hd ht]
  refine settle_halted ?_
  rw [stopIfAsked, if_pos rfl, stopPush_halts _ (by simpa [filed.chain] using unhalted)]
  simp [filed.chain, filed.day]

/-- A press leaves a halted chain halted (R37). -/
theorem press_of_halted {h : HaltRec} (halted : s.chain.state = .halted h) :
    (press station button s).chain.state = .halted h := by
  rw [press_eq rfl rfl]
  refine settle_halted (stopIfAsked_of_halted ?_)
  rw [setIntake_chain, (fileCall_queuesOnly ..).chain, halted]

end

/-! ### The presses of a good reply -/

theorem loopState_of_counting {i : Intake} (h : i.recovery = none) :
    i.loopState = if 96 ≤ i.counter then .degraded else .active := by
  simp [Intake.loopState, h]

theorem outcomeOf_good {station : Nat} {a b x : Byte} (ha : a.toNat = station) (hsum : a + b + x = 0#8) :
    outcomeOf station [a, b, x] true = .good (b.extractLsb' 4 4) (b.extractLsb' 0 4) := by
  simp [outcomeOf, ha, hsum]

/-- The buttons pressed, in ascending order (R96, R103). -/
theorem pressed_filter (b : Byte) : (List.range 4).filter (b.extractLsb' 4 4).getLsbD =
    [0, 1, 2, 3].filter fun k => b.getLsbD (4 + k) := by
  refine List.filter_congr fun k hk => ?_
  have : k < 4 := List.mem_range.mp hk
  simp [this]

/-- Outside LOOP_OFF a counter one lower is another loop state exactly when it leaves 96 (R99). -/
theorem loopState_ne_iff {i j : Intake} (hi : i.recovery = none) (hj : j.recovery = none)
    (hc : j.counter = i.counter - 1) : j.loopState ≠ i.loopState ↔ i.counter = 96 := by
  rw [loopState_of_counting hi, loopState_of_counting hj, hc]
  split <;> split <;> simp <;> omega

/-- A good reply outside LOOP_OFF at the station table, the counter and LOOP_STATE (R98 to R102). -/
theorem outcomeTaken_good {station : Nat} {pressed held : BitVec 4} {s : State} {old new : Station}
    (hrec : s.intake.recovery = none) (hold : old = s.intake.stations.getD station Station.start)
    (hnew : new = { old with missed := 0, present := true, lastReply := some held }) :
    outcomeTaken station (.good pressed held) s = { s with
      intake := { s.intake with
        stations := s.intake.stations.set station new
        counter := s.intake.counter - 1 }
      link := if old.present = true ∧ s.intake.counter ≠ 96 then s.link
        else (raise .loopState ((if s.intake.counter - 1 < 96 then [0#8] else [1#8]) ++ u8 (s.intake.counter - 1) ++
          if old.present then [0xFF#8, 0xFF#8] else u8 station ++ [0#8]) s).link } := by
  have entry : s.intake.station station = old := hold.symm
  have after : old.after (.good pressed held) = new := hnew.symm
  have present : new.present = true := by rw [hnew]
  have counted (stations : List Station) : Intake.counted (.good pressed held) { s.intake with stations := stations } =
      { s.intake with stations := stations, counter := s.intake.counter - 1 } := by
    simp only [Intake.counted, hrec]
  generalize hj : ({ s.intake with
      stations := s.intake.stations.set station new
      counter := s.intake.counter - 1 } : Intake) = j
  have hrec' : j.recovery = none := by rw [← hj]; exact hrec
  have lower : j.counter = s.intake.counter - 1 := by rw [← hj]
  have told : (true != old.present || decide (j.loopState ≠ s.intake.loopState)) = true ↔
      ¬ (old.present = true ∧ s.intake.counter ≠ 96) := by
    have changes := loopState_ne_iff hrec hrec' lower
    cases old.present <;> simp [changes]
  have state : u8 j.loopState.ctorIdx = if s.intake.counter - 1 < 96 then [0#8] else [1#8] := by
    rw [loopState_of_counting hrec', lower]
    simp only [← not_lt, ite_not]
    split <;> rfl
  unfold outcomeTaken
  simp only [entry, after, counted, present, hj, told, state, lower, ite_not]
  by_cases quiet : old.present = true ∧ s.intake.counter ≠ 96
  · rw [if_pos quiet, if_pos quiet]
    rfl
  · rw [if_neg quiet, if_neg quiet]
    cases old.present <;> rfl

/-- The end of a poll by a good reply outside LOOP_OFF: the outcome, the presses in ascending order, and the next poll (R96,
R103). -/
theorem pollReplyEnd_good {a b x : Byte} {poll : Poll} {s : State} (hpoll : s.intake.poll = some poll)
    (hrec : s.intake.recovery = none) (ha : a.toNat = poll.station) (hsum : a + b + x = 0#8) :
    pollReplyEnd [a, b, x] true s = nextPoll poll.station
      (([0, 1, 2, 3].filter fun k => b.getLsbD (4 + k)).foldl (fun s k => press poll.station k s)
        (outcomeTaken poll.station (.good (b.extractLsb' 4 4) (b.extractLsb' 0 4)) s)) := by
  simp only [pollReplyEnd, hpoll, outcomeOf_good ha hsum, pollEnds, takePresses, hrec, pressed_filter]
  rfl

/-- Settles O48: `decidePress` decides as the filter list says, `press_eq` takes the press apart, and `pollReplyEnd_good` gives
the presses of a reply. -/
theorem pressFiled : Obligations.PressFiled := by
  unfold Obligations.PressFiled
  constructor
  · intro station button code s filed filter decided taken matched hcode hmatched hdecided htaken hfiled
    subst hcode
    have decides (f : FilterEntry) : matched f ↔ f.decides (s.day.state = .shut) (4 * station + button) = true := by
      rw [hmatched f, decides_iff, matches_iff]
    have hd : s.decidePress (4 * station + button) = (filter, decided) := by
      rcases hdecided with ⟨i, f, rfl, hf, hm, rfl, first⟩ | ⟨rfl, unmatched, rfl⟩
      · exact decidePress_of_first hf ((decides f).mp hm) fun k hk g hg =>
          Bool.eq_false_iff.mpr (mt (decides g).mpr (first k hk g hg))
      · exact decidePress_of_unmatched fun f hf => Bool.eq_false_iff.mpr (mt (decides f).mpr (unmatched f hf))
    have ht : s.taken decided = taken := (taken_eq decided).trans htaken.symm
    have hf : filed = fileCall (4 * station + button) filter taken s := by
      rw [hfiled]
      cases taken <;> rfl
    refine ⟨?_, fun stop unhalted => ?_, fun h halted => press_of_halted halted⟩
    · rw [press_steady hd ht, countPress_intake, hf]
    · subst stop
      exact press_halts hd ht unhalted
  · intro a b x s u poll old new hpoll hrec ha hsum hold hnew hu
    have ended := pollReplyEnd_good hpoll hrec ha hsum
    rw [outcomeTaken_good hrec hold hnew, ← hu] at ended
    exact ⟨_, _, congrArg Host.Outcome.next ended, rfl, rfl⟩

end Sys2Proof.Machine
end
